-- ==== Sys2Proof/Word.lean ====
section
/-! DEFINITION. The two data widths of the 8086/8088: byte and word (spec/00_scope.md R7). -/
namespace Sys2Proof

/-- An 8-bit byte (R7). -/
abbrev Byte := BitVec 8

/-- A 16-bit word: a register, an offset, a segment base value (R7). -/
abbrev Word := BitVec 16

end Sys2Proof
end

