-- ==== Sys2Proof/Syntax.lean ====
section
/-! DEFINITION. The instructions of the 8086/8088 as syntax: one constructor per row of spec/opcode_table.json: first
the rows with operands, in the order of the opcode map, then those without (spec/30_encoding.md R88 to R95, R104 to
R106). Where the table splits one form over several rows only because a pattern of fixed bits cannot say "MOD is not 11"
(LEA, LES, LDS, CALL MEM32, JMP MEM32), "any second byte but 0AH" or "/1 to /7", one constructor stands for the group;
INVENTORY.md lists the groups. -/
namespace Sys2Proof

/-- The 8-bit registers in the order of their codes (spec/30_encoding.md R75; spec/10_state.md R14). -/
inductive Reg8 where
  | al | cl | dl | bl | ah | ch | dh | bh
deriving DecidableEq, Repr

/-- The 16-bit general registers in the order of their codes (R75; R13). -/
inductive Reg16 where
  | ax | cx | dx | bx | sp | bp | si | di
deriving DecidableEq, Repr

/-- The segment registers in the order of their codes (R79; R26). -/
inductive SReg where
  | es | cs | ss | ds
deriving DecidableEq, Repr

/-- The base and index parts of an effective address, in the order of the R/M field (R76). -/
inductive EaBase where
  | bxSi | bxDi | bpSi | bpDi | si | di | bp | bx
deriving DecidableEq, Repr

/-- The displacement of an indexed operand: MOD = 00, 01 or 10 (R74, R77). -/
inductive Disp where
  | absent
  | d8 (d : Byte)
  | d16 (d : Word)
deriving DecidableEq, Repr

/-- A memory operand named by a mod-reg-r/m byte (R76): a direct address, or base and index registers with a
displacement. `indexed .bp .absent` has no encoding (R76: "there is no `[BP]` form without displacement"). -/
inductive MemOp where
  | direct (off : Word)
  | indexed (base : EaBase) (disp : Disp)
deriving DecidableEq, Repr

/-- `Eb`: the 8-bit r/m operand (R84). -/
inductive Eb where
  | reg (r : Reg8)
  | mem (m : MemOp)
deriving DecidableEq, Repr

/-- `Ev`: the 16-bit r/m operand (R84). -/
inductive Ev where
  | reg (r : Reg16)
  | mem (m : MemOp)
deriving DecidableEq, Repr

/-- The instructions. Each constructor's docstring gives the encoding and the rule of its meaning. `modrm` is a raw
second byte, kept whole where the table gives its bits no meaning. -/
inductive Instr where
  /-- 00H `ADD Eb, Gb` (R141). -/
  | addEbGb (dst : Eb) (src : Reg8)
  /-- 01H `ADD Ev, Gv` (R141). -/
  | addEvGv (dst : Ev) (src : Reg16)
  /-- 02H `ADD Gb, Eb` (R141). -/
  | addGbEb (dst : Reg8) (src : Eb)
  /-- 03H `ADD Gv, Ev` (R141). -/
  | addGvEv (dst : Reg16) (src : Ev)
  /-- 04H `ADD AL, Ib` (R141). -/
  | addAlIb (imm : Byte)
  /-- 05H `ADD AX, Iv` (R141). -/
  | addAxIv (imm : Word)
  /-- 08H `OR Eb, Gb` (R173). -/
  | orEbGb (dst : Eb) (src : Reg8)
  /-- 09H `OR Ev, Gv` (R173). -/
  | orEvGv (dst : Ev) (src : Reg16)
  /-- 0AH `OR Gb, Eb` (R173). -/
  | orGbEb (dst : Reg8) (src : Eb)
  /-- 0BH `OR Gv, Ev` (R173). -/
  | orGvEv (dst : Reg16) (src : Ev)
  /-- 0CH `OR AL, Ib` (R173). -/
  | orAlIb (imm : Byte)
  /-- 0DH `OR AX, Iv` (R173). -/
  | orAxIv (imm : Word)
  /-- 10H `ADC Eb, Gb` (R142). -/
  | adcEbGb (dst : Eb) (src : Reg8)
  /-- 11H `ADC Ev, Gv` (R142). -/
  | adcEvGv (dst : Ev) (src : Reg16)
  /-- 12H `ADC Gb, Eb` (R142). -/
  | adcGbEb (dst : Reg8) (src : Eb)
  /-- 13H `ADC Gv, Ev` (R142). -/
  | adcGvEv (dst : Reg16) (src : Ev)
  /-- 14H `ADC AL, Ib` (R142). -/
  | adcAlIb (imm : Byte)
  /-- 15H `ADC AX, Iv` (R142). -/
  | adcAxIv (imm : Word)
  /-- 18H `SBB Eb, Gb` (R147). -/
  | sbbEbGb (dst : Eb) (src : Reg8)
  /-- 19H `SBB Ev, Gv` (R147). -/
  | sbbEvGv (dst : Ev) (src : Reg16)
  /-- 1AH `SBB Gb, Eb` (R147). -/
  | sbbGbEb (dst : Reg8) (src : Eb)
  /-- 1BH `SBB Gv, Ev` (R147). -/
  | sbbGvEv (dst : Reg16) (src : Ev)
  /-- 1CH `SBB AL, Ib` (R147). -/
  | sbbAlIb (imm : Byte)
  /-- 1DH `SBB AX, Iv` (R147). -/
  | sbbAxIv (imm : Word)
  /-- 20H `AND Eb, Gb` (R172). -/
  | andEbGb (dst : Eb) (src : Reg8)
  /-- 21H `AND Ev, Gv` (R172). -/
  | andEvGv (dst : Ev) (src : Reg16)
  /-- 22H `AND Gb, Eb` (R172). -/
  | andGbEb (dst : Reg8) (src : Eb)
  /-- 23H `AND Gv, Ev` (R172). -/
  | andGvEv (dst : Reg16) (src : Ev)
  /-- 24H `AND AL, Ib` (R172). -/
  | andAlIb (imm : Byte)
  /-- 25H `AND AX, Iv` (R172). -/
  | andAxIv (imm : Word)
  /-- 28H `SUB Eb, Gb` (R146). -/
  | subEbGb (dst : Eb) (src : Reg8)
  /-- 29H `SUB Ev, Gv` (R146). -/
  | subEvGv (dst : Ev) (src : Reg16)
  /-- 2AH `SUB Gb, Eb` (R146). -/
  | subGbEb (dst : Reg8) (src : Eb)
  /-- 2BH `SUB Gv, Ev` (R146). -/
  | subGvEv (dst : Reg16) (src : Ev)
  /-- 2CH `SUB AL, Ib` (R146). -/
  | subAlIb (imm : Byte)
  /-- 2DH `SUB AX, Iv` (R146). -/
  | subAxIv (imm : Word)
  /-- 30H `XOR Eb, Gb` (R174). -/
  | xorEbGb (dst : Eb) (src : Reg8)
  /-- 31H `XOR Ev, Gv` (R174). -/
  | xorEvGv (dst : Ev) (src : Reg16)
  /-- 32H `XOR Gb, Eb` (R174). -/
  | xorGbEb (dst : Reg8) (src : Eb)
  /-- 33H `XOR Gv, Ev` (R174). -/
  | xorGvEv (dst : Reg16) (src : Ev)
  /-- 34H `XOR AL, Ib` (R174). -/
  | xorAlIb (imm : Byte)
  /-- 35H `XOR AX, Iv` (R174). -/
  | xorAxIv (imm : Word)
  /-- 38H `CMP Eb, Gb` (R150). -/
  | cmpEbGb (dst : Eb) (src : Reg8)
  /-- 39H `CMP Ev, Gv` (R150). -/
  | cmpEvGv (dst : Ev) (src : Reg16)
  /-- 3AH `CMP Gb, Eb` (R150). -/
  | cmpGbEb (dst : Reg8) (src : Eb)
  /-- 3BH `CMP Gv, Ev` (R150). -/
  | cmpGvEv (dst : Reg16) (src : Ev)
  /-- 3CH `CMP AL, Ib` (R150). -/
  | cmpAlIb (imm : Byte)
  /-- 3DH `CMP AX, Iv` (R150). -/
  | cmpAxIv (imm : Word)
  /-- 40H–47H `INC r16` (R143). -/
  | incR16 (r : Reg16)
  /-- 48H–4FH `DEC r16` (R148). -/
  | decR16 (r : Reg16)
  /-- 50H–57H `PUSH r16` (R117). -/
  | pushR16 (r : Reg16)
  /-- 58H–5FH `POP r16` (R118). -/
  | popR16 (r : Reg16)
  /-- 60H–6FH, marked "(not used)"; `low` is the low nibble (R104). -/
  | notUsed60 (low : BitVec 4)
  /-- 70H `JO short-label` (R220). -/
  | jo (inc : Byte)
  /-- 71H `JNO short-label` (R221). -/
  | jno (inc : Byte)
  /-- 72H `JB short-label` (R222). -/
  | jb (inc : Byte)
  /-- 73H `JNB short-label` (R223). -/
  | jnb (inc : Byte)
  /-- 74H `JE short-label` (R224). -/
  | je (inc : Byte)
  /-- 75H `JNE short-label` (R225). -/
  | jne (inc : Byte)
  /-- 76H `JBE short-label` (R226). -/
  | jbe (inc : Byte)
  /-- 77H `JNBE short-label` (R227). -/
  | jnbe (inc : Byte)
  /-- 78H `JS short-label` (R228). -/
  | js (inc : Byte)
  /-- 79H `JNS short-label` (R229). -/
  | jns (inc : Byte)
  /-- 7AH `JP short-label` (R230). -/
  | jp (inc : Byte)
  /-- 7BH `JNP short-label` (R231). -/
  | jnp (inc : Byte)
  /-- 7CH `JL short-label` (R232). -/
  | jl (inc : Byte)
  /-- 7DH `JNL short-label` (R233). -/
  | jnl (inc : Byte)
  /-- 7EH `JLE short-label` (R234). -/
  | jle (inc : Byte)
  /-- 7FH `JNLE short-label` (R235). -/
  | jnle (inc : Byte)
  /-- 80H /0 `ADD Eb, Ib` (R141). -/
  | addEbIb (dst : Eb) (imm : Byte)
  /-- 80H /1 `OR Eb, Ib` (R173). -/
  | orEbIb (dst : Eb) (imm : Byte)
  /-- 80H /2 `ADC Eb, Ib` (R142). -/
  | adcEbIb (dst : Eb) (imm : Byte)
  /-- 80H /3 `SBB Eb, Ib` (R147). -/
  | sbbEbIb (dst : Eb) (imm : Byte)
  /-- 80H /4 `AND Eb, Ib` (R172). -/
  | andEbIb (dst : Eb) (imm : Byte)
  /-- 80H /5 `SUB Eb, Ib` (R146). -/
  | subEbIb (dst : Eb) (imm : Byte)
  /-- 80H /6 `XOR Eb, Ib` (R174). -/
  | xorEbIb (dst : Eb) (imm : Byte)
  /-- 80H /7 `CMP Eb, Ib` (R150). -/
  | cmpEbIb (dst : Eb) (imm : Byte)
  /-- 81H /0 `ADD Ev, Iv` (R141). -/
  | addEvIv (dst : Ev) (imm : Word)
  /-- 81H /1 `OR Ev, Iv` (R173). -/
  | orEvIv (dst : Ev) (imm : Word)
  /-- 81H /2 `ADC Ev, Iv` (R142). -/
  | adcEvIv (dst : Ev) (imm : Word)
  /-- 81H /3 `SBB Ev, Iv` (R147). -/
  | sbbEvIv (dst : Ev) (imm : Word)
  /-- 81H /4 `AND Ev, Iv` (R172). -/
  | andEvIv (dst : Ev) (imm : Word)
  /-- 81H /5 `SUB Ev, Iv` (R146). -/
  | subEvIv (dst : Ev) (imm : Word)
  /-- 81H /6 `XOR Ev, Iv` (R174). -/
  | xorEvIv (dst : Ev) (imm : Word)
  /-- 81H /7 `CMP Ev, Iv` (R150). -/
  | cmpEvIv (dst : Ev) (imm : Word)
  /-- 82H /0 `ADD Eb, Ib`, the s = 1 alias of 80H /0 (R141, R103). -/
  | addEbIb82 (dst : Eb) (imm : Byte)
  /-- 82H /2 `ADC Eb, Ib`, the s = 1 alias of 80H /2 (R142, R103). -/
  | adcEbIb82 (dst : Eb) (imm : Byte)
  /-- 82H /3 `SBB Eb, Ib`, the s = 1 alias of 80H /3 (R147, R103). -/
  | sbbEbIb82 (dst : Eb) (imm : Byte)
  /-- 82H /5 `SUB Eb, Ib`, the s = 1 alias of 80H /5 (R146, R103). -/
  | subEbIb82 (dst : Eb) (imm : Byte)
  /-- 82H /7 `CMP Eb, Ib`, the s = 1 alias of 80H /7 (R150, R103). -/
  | cmpEbIb82 (dst : Eb) (imm : Byte)
  /-- 82H /1, /4, /6, marked "(not used)" (R104). -/
  | notUsed82 (modrm : Byte)
  /-- 83H /0 `ADD Ev, Is`, the byte sign-extended (R141). -/
  | addEvIs (dst : Ev) (imm : Byte)
  /-- 83H /2 `ADC Ev, Is`, the byte sign-extended (R142). -/
  | adcEvIs (dst : Ev) (imm : Byte)
  /-- 83H /3 `SBB Ev, Is`, the byte sign-extended (R147). -/
  | sbbEvIs (dst : Ev) (imm : Byte)
  /-- 83H /5 `SUB Ev, Is`, the byte sign-extended (R146). -/
  | subEvIs (dst : Ev) (imm : Byte)
  /-- 83H /7 `CMP Ev, Is`, the byte sign-extended (R150). -/
  | cmpEvIs (dst : Ev) (imm : Byte)
  /-- 83H /1, /4, /6, marked "(not used)" (R104). -/
  | notUsed83 (modrm : Byte)
  /-- 84H `TEST Eb, Gb` (R175). -/
  | testEbGb (a : Eb) (b : Reg8)
  /-- 85H `TEST Ev, Gv` (R175). -/
  | testEvGv (a : Ev) (b : Reg16)
  /-- 86H `XCHG Gb, Eb` (R119). -/
  | xchgGbEb (r : Reg8) (rm : Eb)
  /-- 87H `XCHG Gv, Ev` (R119). -/
  | xchgGvEv (r : Reg16) (rm : Ev)
  /-- 88H `MOV Eb, Gb` (R111). -/
  | movEbGb (dst : Eb) (src : Reg8)
  /-- 89H `MOV Ev, Gv` (R111). -/
  | movEvGv (dst : Ev) (src : Reg16)
  /-- 8AH `MOV Gb, Eb` (R111). -/
  | movGbEb (dst : Reg8) (src : Eb)
  /-- 8BH `MOV Gv, Ev` (R111). -/
  | movGvEv (dst : Reg16) (src : Ev)
  /-- 8CH `MOV Ev, SEGREG` (R116). -/
  | movEvSeg (dst : Ev) (src : SReg)
  /-- 8CH with bit 5 of the second byte set, marked "(not used)" (R104). -/
  | notUsed8C (modrm : Byte)
  /-- 8DH `LEA Gv, MEM16` (R124). -/
  | lea (dst : Reg16) (src : MemOp)
  /-- 8DH with MOD = 11: `LEA` of a register (R106). -/
  | refusedLea (dst : Reg16) (src : Reg16)
  /-- 8EH `MOV ES, Ev` (R115). -/
  | movEsEv (src : Ev)
  /-- 8EH with REG = 001: `MOV CS, Ev` (R105). -/
  | refusedMovCs (modrm : Byte)
  /-- 8EH `MOV SS, Ev` (R115). -/
  | movSsEv (src : Ev)
  /-- 8EH `MOV DS, Ev` (R115). -/
  | movDsEv (src : Ev)
  /-- 8EH with bit 5 of the second byte set, marked "(not used)" (R104). -/
  | notUsed8E (modrm : Byte)
  /-- 8FH /0 `POP Ev` (R118). -/
  | popEv (dst : Ev)
  /-- 8FH /1 to /7, marked "(not used)" (R104). -/
  | notUsed8F (modrm : Byte)
  /-- 9AH `CALL far-proc`; `off` then `base` as stored (R208). -/
  | callFar (off : Word) (base : Word)
  /-- A0H `MOV AL, mem8` (direct address) (R114). -/
  | movAlMem (off : Word)
  /-- A1H `MOV AX, mem16` (R114). -/
  | movAxMem (off : Word)
  /-- A2H `MOV mem8, AL` (R114). -/
  | movMemAl (off : Word)
  /-- A3H `MOV mem16, AX` (R114). -/
  | movMemAx (off : Word)
  /-- A8H `TEST AL, Ib` (R175). -/
  | testAlIb (imm : Byte)
  /-- A9H `TEST AX, Iv` (R175). -/
  | testAxIv (imm : Word)
  /-- B0H–B7H `MOV r8, Ib` (R113). -/
  | movR8Ib (r : Reg8) (imm : Byte)
  /-- B8H–BFH `MOV r16, Iv` (R113). -/
  | movR16Iv (r : Reg16) (imm : Word)
  /-- C0H and C1H, marked "(not used)"; `low` is bit 0 (R104). -/
  | notUsedC0 (low : BitVec 1)
  /-- C2H `RET Iv` (intrasegment) (R211). -/
  | retPop (n : Word)
  /-- C4H `LES Gv, MEM32` (R126). -/
  | les (dst : Reg16) (src : MemOp)
  /-- C4H with MOD = 11: `LES` of a register (R106). -/
  | refusedLes (dst : Reg16) (src : Reg16)
  /-- C5H `LDS Gv, MEM32` (R125). -/
  | lds (dst : Reg16) (src : MemOp)
  /-- C5H with MOD = 11: `LDS` of a register (R106). -/
  | refusedLds (dst : Reg16) (src : Reg16)
  /-- C6H /0 `MOV Eb, Ib` (R112). -/
  | movEbIb (dst : Eb) (imm : Byte)
  /-- C6H /1 to /7, marked "(not used)" (R104). -/
  | notUsedC6 (modrm : Byte)
  /-- C7H /0 `MOV Ev, Iv` (R112). -/
  | movEvIv (dst : Ev) (imm : Word)
  /-- C7H /1 to /7, marked "(not used)" (R104). -/
  | notUsedC7 (modrm : Byte)
  /-- C8H and C9H, marked "(not used)"; `low` is bit 0 (R104). -/
  | notUsedC8 (low : BitVec 1)
  /-- CAH `RET Iv` (intersegment) (R213). -/
  | retfPop (n : Word)
  /-- CDH `INT Ib` (R240). -/
  | intIb (n : Byte)
  /-- D0H /0 `ROL Eb, 1` (R180, R176). -/
  | rolEb1 (dst : Eb)
  /-- D0H /1 `ROR Eb, 1` (R181, R176). -/
  | rorEb1 (dst : Eb)
  /-- D0H /2 `RCL Eb, 1` (R182, R176). -/
  | rclEb1 (dst : Eb)
  /-- D0H /3 `RCR Eb, 1` (R183, R176). -/
  | rcrEb1 (dst : Eb)
  /-- D0H /4 `SHL Eb, 1` (R177, R176). -/
  | shlEb1 (dst : Eb)
  /-- D0H /5 `SHR Eb, 1` (R178, R176). -/
  | shrEb1 (dst : Eb)
  /-- D0H /7 `SAR Eb, 1` (R179, R176). -/
  | sarEb1 (dst : Eb)
  /-- D0H /6, marked "(not used)" (R104). -/
  | notUsedD0 (modrm : Byte)
  /-- D1H /0 `ROL Ev, 1` (R180, R176). -/
  | rolEv1 (dst : Ev)
  /-- D1H /1 `ROR Ev, 1` (R181, R176). -/
  | rorEv1 (dst : Ev)
  /-- D1H /2 `RCL Ev, 1` (R182, R176). -/
  | rclEv1 (dst : Ev)
  /-- D1H /3 `RCR Ev, 1` (R183, R176). -/
  | rcrEv1 (dst : Ev)
  /-- D1H /4 `SHL Ev, 1` (R177, R176). -/
  | shlEv1 (dst : Ev)
  /-- D1H /5 `SHR Ev, 1` (R178, R176). -/
  | shrEv1 (dst : Ev)
  /-- D1H /7 `SAR Ev, 1` (R179, R176). -/
  | sarEv1 (dst : Ev)
  /-- D1H /6, marked "(not used)" (R104). -/
  | notUsedD1 (modrm : Byte)
  /-- D2H /0 `ROL Eb, CL` (R180, R176). -/
  | rolEbCl (dst : Eb)
  /-- D2H /1 `ROR Eb, CL` (R181, R176). -/
  | rorEbCl (dst : Eb)
  /-- D2H /2 `RCL Eb, CL` (R182, R176). -/
  | rclEbCl (dst : Eb)
  /-- D2H /3 `RCR Eb, CL` (R183, R176). -/
  | rcrEbCl (dst : Eb)
  /-- D2H /4 `SHL Eb, CL` (R177, R176). -/
  | shlEbCl (dst : Eb)
  /-- D2H /5 `SHR Eb, CL` (R178, R176). -/
  | shrEbCl (dst : Eb)
  /-- D2H /7 `SAR Eb, CL` (R179, R176). -/
  | sarEbCl (dst : Eb)
  /-- D2H /6, marked "(not used)" (R104). -/
  | notUsedD2 (modrm : Byte)
  /-- D3H /0 `ROL Ev, CL` (R180, R176). -/
  | rolEvCl (dst : Ev)
  /-- D3H /1 `ROR Ev, CL` (R181, R176). -/
  | rorEvCl (dst : Ev)
  /-- D3H /2 `RCL Ev, CL` (R182, R176). -/
  | rclEvCl (dst : Ev)
  /-- D3H /3 `RCR Ev, CL` (R183, R176). -/
  | rcrEvCl (dst : Ev)
  /-- D3H /4 `SHL Ev, CL` (R177, R176). -/
  | shlEvCl (dst : Ev)
  /-- D3H /5 `SHR Ev, CL` (R178, R176). -/
  | shrEvCl (dst : Ev)
  /-- D3H /7 `SAR Ev, CL` (R179, R176). -/
  | sarEvCl (dst : Ev)
  /-- D3H /6, marked "(not used)" (R104). -/
  | notUsedD3 (modrm : Byte)
  /-- D4H with a second byte other than 0AH (R102). -/
  | refusedAam (b : Byte)
  /-- D5H with a second byte other than 0AH (R102). -/
  | refusedAad (b : Byte)
  /-- D8H–DFH `ESC`; `x : y` is the external opcode (R101) (R260). -/
  | esc (x : BitVec 3) (y : BitVec 3) (rm : Ev)
  /-- E0H `LOOPNE short-label` (R238). -/
  | loopne (inc : Byte)
  /-- E1H `LOOPE short-label` (R237). -/
  | loope (inc : Byte)
  /-- E2H `LOOP short-label` (R236). -/
  | loop (inc : Byte)
  /-- E3H `JCXZ short-label` (R239). -/
  | jcxz (inc : Byte)
  /-- E4H `IN AL, Ib` (R122). -/
  | inAlIb (port : Byte)
  /-- E5H `IN AX, Ib` (R122). -/
  | inAxIb (port : Byte)
  /-- E6H `OUT Ib, AL` (R123). -/
  | outIbAl (port : Byte)
  /-- E7H `OUT Ib, AX` (R123). -/
  | outIbAx (port : Byte)
  /-- E8H `CALL near-proc` (R206). -/
  | callNear (inc : Word)
  /-- E9H `JMP near-label` (R214). -/
  | jmpNear (inc : Word)
  /-- EAH `JMP far-label`; `off` then `base` as stored (R217). -/
  | jmpFar (off : Word) (base : Word)
  /-- EBH `JMP short-label` (R215). -/
  | jmpShort (inc : Byte)
  /-- F6H /0 `TEST Eb, Ib` (R175). -/
  | testEbIb (a : Eb) (imm : Byte)
  /-- F6H /1, marked "(not used)" (R104). -/
  | notUsedF6 (modrm : Byte)
  /-- F6H /2 `NOT Eb` (R171). -/
  | notEb (dst : Eb)
  /-- F6H /3 `NEG Eb` (R149). -/
  | negEb (dst : Eb)
  /-- F6H /4 `MUL Eb` (R153). -/
  | mulEb (src : Eb)
  /-- F6H /5 `IMUL Eb` (R154). -/
  | imulEb (src : Eb)
  /-- F6H /6 `DIV Eb` (R156). -/
  | divEb (src : Eb)
  /-- F6H /7 `IDIV Eb` (R157). -/
  | idivEb (src : Eb)
  /-- F7H /0 `TEST Ev, Iv` (R175). -/
  | testEvIv (a : Ev) (imm : Word)
  /-- F7H /1, marked "(not used)" (R104). -/
  | notUsedF7 (modrm : Byte)
  /-- F7H /2 `NOT Ev` (R171). -/
  | notEv (dst : Ev)
  /-- F7H /3 `NEG Ev` (R149). -/
  | negEv (dst : Ev)
  /-- F7H /4 `MUL Ev` (R153). -/
  | mulEv (src : Ev)
  /-- F7H /5 `IMUL Ev` (R154). -/
  | imulEv (src : Ev)
  /-- F7H /6 `DIV Ev` (R156). -/
  | divEv (src : Ev)
  /-- F7H /7 `IDIV Ev` (R157). -/
  | idivEv (src : Ev)
  /-- FEH /0 `INC Eb` (R143). -/
  | incEb (dst : Eb)
  /-- FEH /1 `DEC Eb` (R148). -/
  | decEb (dst : Eb)
  /-- FEH /2 to /7, marked "(not used)" (R104). -/
  | notUsedFE (modrm : Byte)
  /-- FFH /0 `INC Ev` (R143). -/
  | incEv (dst : Ev)
  /-- FFH /1 `DEC Ev` (R148). -/
  | decEv (dst : Ev)
  /-- FFH /2 `CALL Ev` (intrasegment, indirect) (R207). -/
  | callEv (target : Ev)
  /-- FFH /3 `CALL MEM32` (intersegment, indirect) (R209). -/
  | callMem32 (ptr : MemOp)
  /-- FFH /3 with MOD = 11 (R106). -/
  | refusedCallMem32 (r : Reg16)
  /-- FFH /4 `JMP Ev` (intrasegment, indirect) (R216). -/
  | jmpEv (target : Ev)
  /-- FFH /5 `JMP MEM32` (intersegment, indirect) (R218). -/
  | jmpMem32 (ptr : MemOp)
  /-- FFH /5 with MOD = 11 (R106). -/
  | refusedJmpMem32 (r : Reg16)
  /-- FFH /6 `PUSH Ev` (R117). -/
  | pushEv (src : Ev)
  /-- FFH /7, marked "(not used)" (R104). -/
  | notUsedFF (modrm : Byte)
  /-- 06H `PUSH ES` (R117). -/
  | pushEs
  /-- 07H `POP ES` (R118). -/
  | popEs
  /-- 0EH `PUSH CS` (R117). -/
  | pushCs
  /-- 0FH, marked "(not used)"; it would be `POP CS` (R105) (R104). -/
  | notUsed0F
  /-- 16H `PUSH SS` (R117). -/
  | pushSs
  /-- 17H `POP SS` (R118). -/
  | popSs
  /-- 1EH `PUSH DS` (R117). -/
  | pushDs
  /-- 1FH `POP DS` (R118). -/
  | popDs
  /-- 26H segment-override prefix `ES:` (R96). -/
  | segEs
  /-- 27H `DAA` (R145). -/
  | daa
  /-- 2EH segment-override prefix `CS:` (R96). -/
  | segCs
  /-- 2FH `DAS` (R152). -/
  | das
  /-- 36H segment-override prefix `SS:` (R96). -/
  | segSs
  /-- 37H `AAA` (R144). -/
  | aaa
  /-- 3EH segment-override prefix `DS:` (R96). -/
  | segDs
  /-- 3FH `AAS` (R151). -/
  | aas
  /-- 90H `NOP` (R263). -/
  | nop
  /-- 91H `XCHG AX, CX` (R120). -/
  | xchgAxCx
  /-- 92H `XCHG AX, DX` (R120). -/
  | xchgAxDx
  /-- 93H `XCHG AX, BX` (R120). -/
  | xchgAxBx
  /-- 94H `XCHG AX, SP` (R120). -/
  | xchgAxSp
  /-- 95H `XCHG AX, BP` (R120). -/
  | xchgAxBp
  /-- 96H `XCHG AX, SI` (R120). -/
  | xchgAxSi
  /-- 97H `XCHG AX, DI` (R120). -/
  | xchgAxDi
  /-- 98H `CBW` (R159). -/
  | cbw
  /-- 99H `CWD` (R160). -/
  | cwd
  /-- 9BH `WAIT` (R259). -/
  | wait
  /-- 9CH `PUSHF` (R129). -/
  | pushf
  /-- 9DH `POPF` (R130). -/
  | popf
  /-- 9EH `SAHF` (R128). -/
  | sahf
  /-- 9FH `LAHF` (R127). -/
  | lahf
  /-- A4H `MOVS` on bytes (R191). -/
  | movsb
  /-- A5H `MOVS` on words (R191). -/
  | movsw
  /-- A6H `CMPS` on bytes (R192). -/
  | cmpsb
  /-- A7H `CMPS` on words (R192). -/
  | cmpsw
  /-- AAH `STOS` on bytes (R195). -/
  | stosb
  /-- ABH `STOS` on words (R195). -/
  | stosw
  /-- ACH `LODS` on bytes (R194). -/
  | lodsb
  /-- ADH `LODS` on words (R194). -/
  | lodsw
  /-- AEH `SCAS` on bytes (R193). -/
  | scasb
  /-- AFH `SCAS` on words (R193). -/
  | scasw
  /-- C3H `RET` (intrasegment) (R210). -/
  | ret
  /-- CBH `RET` (intersegment) (R212). -/
  | retf
  /-- CCH `INT 3` (R241). -/
  | int3
  /-- CEH `INTO` (R242). -/
  | into
  /-- CFH `IRET` (R243). -/
  | iret
  /-- D4H 0AH `AAM` (R155). -/
  | aam
  /-- D5H 0AH `AAD` (R158). -/
  | aad
  /-- D6H, marked "(not used)" (R104). -/
  | notUsedD6
  /-- D7H `XLAT` (R121). -/
  | xlat
  /-- ECH `IN AL, DX` (R122). -/
  | inAlDx
  /-- EDH `IN AX, DX` (R122). -/
  | inAxDx
  /-- EEH `OUT DX, AL` (R123). -/
  | outDxAl
  /-- EFH `OUT DX, AX` (R123). -/
  | outDxAx
  /-- F0H prefix `LOCK` (R97, R262). -/
  | lock
  /-- F1H, marked "(not used)" (R104). -/
  | notUsedF1
  /-- F2H prefix `REPNE` (z = 0) (R98, R196). -/
  | repne
  /-- F3H prefix `REP` (z = 1) (R98, R196). -/
  | rep
  /-- F4H `HLT` (R258). -/
  | hlt
  /-- F5H `CMC` (R251). -/
  | cmc
  /-- F8H `CLC` (R250). -/
  | clc
  /-- F9H `STC` (R252). -/
  | stc
  /-- FAH `CLI` (R255). -/
  | cli
  /-- FBH `STI` (R256). -/
  | sti
  /-- FCH `CLD` (R253). -/
  | cld
  /-- FDH `STD` (R254). -/
  | std
deriving DecidableEq, Repr

end Sys2Proof
end

