-- ==== Sys2Proof/WellFormed.lean ====
section
/-! DEFINITION. Which terms of the syntax are instructions the decoder can give: the operands that have an encoding, and
the reserved second bytes with the REG value that makes them reserved (spec/30_encoding.md R76, R102, R104, R105). -/
namespace Sys2Proof

/-- Every memory operand but `[BP]` without displacement has an encoding (R76). -/
def MemOp.wf : MemOp → Bool
  | .indexed .bp .absent => false
  | _ => true

/-- An r/m operand is well formed when its memory operand is. -/
def Eb.wf : Eb → Bool
  | .reg _ => true
  | .mem m => m.wf

/-- An r/m operand is well formed when its memory operand is. -/
def Ev.wf : Ev → Bool
  | .reg _ => true
  | .mem m => m.wf

/-- The REG field of a reserved second byte is one of those Table 1-23 marks "(not used)" (R104). -/
def regIn (modrm : Byte) (regs : List (BitVec 3)) : Bool := regs.contains (modrm.extractLsb' 3 3)

/-- An instruction is well formed when its operands are and, for a reserved encoding, its bits are the reserved ones. -/
def Instr.wf : Instr → Bool
  | .addEbGb dst _ => dst.wf
  | .addEvGv dst _ => dst.wf
  | .addGbEb _ src => src.wf
  | .addGvEv _ src => src.wf
  | .addAlIb _ => true
  | .addAxIv _ => true
  | .orEbGb dst _ => dst.wf
  | .orEvGv dst _ => dst.wf
  | .orGbEb _ src => src.wf
  | .orGvEv _ src => src.wf
  | .orAlIb _ => true
  | .orAxIv _ => true
  | .adcEbGb dst _ => dst.wf
  | .adcEvGv dst _ => dst.wf
  | .adcGbEb _ src => src.wf
  | .adcGvEv _ src => src.wf
  | .adcAlIb _ => true
  | .adcAxIv _ => true
  | .sbbEbGb dst _ => dst.wf
  | .sbbEvGv dst _ => dst.wf
  | .sbbGbEb _ src => src.wf
  | .sbbGvEv _ src => src.wf
  | .sbbAlIb _ => true
  | .sbbAxIv _ => true
  | .andEbGb dst _ => dst.wf
  | .andEvGv dst _ => dst.wf
  | .andGbEb _ src => src.wf
  | .andGvEv _ src => src.wf
  | .andAlIb _ => true
  | .andAxIv _ => true
  | .subEbGb dst _ => dst.wf
  | .subEvGv dst _ => dst.wf
  | .subGbEb _ src => src.wf
  | .subGvEv _ src => src.wf
  | .subAlIb _ => true
  | .subAxIv _ => true
  | .xorEbGb dst _ => dst.wf
  | .xorEvGv dst _ => dst.wf
  | .xorGbEb _ src => src.wf
  | .xorGvEv _ src => src.wf
  | .xorAlIb _ => true
  | .xorAxIv _ => true
  | .cmpEbGb dst _ => dst.wf
  | .cmpEvGv dst _ => dst.wf
  | .cmpGbEb _ src => src.wf
  | .cmpGvEv _ src => src.wf
  | .cmpAlIb _ => true
  | .cmpAxIv _ => true
  | .incR16 _ => true
  | .decR16 _ => true
  | .pushR16 _ => true
  | .popR16 _ => true
  | .notUsed60 _ => true
  | .jo _ => true
  | .jno _ => true
  | .jb _ => true
  | .jnb _ => true
  | .je _ => true
  | .jne _ => true
  | .jbe _ => true
  | .jnbe _ => true
  | .js _ => true
  | .jns _ => true
  | .jp _ => true
  | .jnp _ => true
  | .jl _ => true
  | .jnl _ => true
  | .jle _ => true
  | .jnle _ => true
  | .addEbIb dst _ => dst.wf
  | .orEbIb dst _ => dst.wf
  | .adcEbIb dst _ => dst.wf
  | .sbbEbIb dst _ => dst.wf
  | .andEbIb dst _ => dst.wf
  | .subEbIb dst _ => dst.wf
  | .xorEbIb dst _ => dst.wf
  | .cmpEbIb dst _ => dst.wf
  | .addEvIv dst _ => dst.wf
  | .orEvIv dst _ => dst.wf
  | .adcEvIv dst _ => dst.wf
  | .sbbEvIv dst _ => dst.wf
  | .andEvIv dst _ => dst.wf
  | .subEvIv dst _ => dst.wf
  | .xorEvIv dst _ => dst.wf
  | .cmpEvIv dst _ => dst.wf
  | .addEbIb82 dst _ => dst.wf
  | .adcEbIb82 dst _ => dst.wf
  | .sbbEbIb82 dst _ => dst.wf
  | .subEbIb82 dst _ => dst.wf
  | .cmpEbIb82 dst _ => dst.wf
  | .notUsed82 modrm => regIn modrm [1, 4, 6]
  | .addEvIs dst _ => dst.wf
  | .adcEvIs dst _ => dst.wf
  | .sbbEvIs dst _ => dst.wf
  | .subEvIs dst _ => dst.wf
  | .cmpEvIs dst _ => dst.wf
  | .notUsed83 modrm => regIn modrm [1, 4, 6]
  | .testEbGb a _ => a.wf
  | .testEvGv a _ => a.wf
  | .xchgGbEb _ rm => rm.wf
  | .xchgGvEv _ rm => rm.wf
  | .movEbGb dst _ => dst.wf
  | .movEvGv dst _ => dst.wf
  | .movGbEb _ src => src.wf
  | .movGvEv _ src => src.wf
  | .movEvSeg dst _ => dst.wf
  | .notUsed8C modrm => regIn modrm [4, 5, 6, 7]
  | .lea _ src => src.wf
  | .refusedLea _ _ => true
  | .movEsEv src => src.wf
  | .refusedMovCs modrm => regIn modrm [1]
  | .movSsEv src => src.wf
  | .movDsEv src => src.wf
  | .notUsed8E modrm => regIn modrm [4, 5, 6, 7]
  | .popEv dst => dst.wf
  | .notUsed8F modrm => regIn modrm [1, 2, 3, 4, 5, 6, 7]
  | .callFar _ _ => true
  | .movAlMem _ => true
  | .movAxMem _ => true
  | .movMemAl _ => true
  | .movMemAx _ => true
  | .testAlIb _ => true
  | .testAxIv _ => true
  | .movR8Ib _ _ => true
  | .movR16Iv _ _ => true
  | .notUsedC0 _ => true
  | .retPop _ => true
  | .les _ src => src.wf
  | .refusedLes _ _ => true
  | .lds _ src => src.wf
  | .refusedLds _ _ => true
  | .movEbIb dst _ => dst.wf
  | .notUsedC6 modrm => regIn modrm [1, 2, 3, 4, 5, 6, 7]
  | .movEvIv dst _ => dst.wf
  | .notUsedC7 modrm => regIn modrm [1, 2, 3, 4, 5, 6, 7]
  | .notUsedC8 _ => true
  | .retfPop _ => true
  | .intIb _ => true
  | .rolEb1 dst => dst.wf
  | .rorEb1 dst => dst.wf
  | .rclEb1 dst => dst.wf
  | .rcrEb1 dst => dst.wf
  | .shlEb1 dst => dst.wf
  | .shrEb1 dst => dst.wf
  | .sarEb1 dst => dst.wf
  | .notUsedD0 modrm => regIn modrm [6]
  | .rolEv1 dst => dst.wf
  | .rorEv1 dst => dst.wf
  | .rclEv1 dst => dst.wf
  | .rcrEv1 dst => dst.wf
  | .shlEv1 dst => dst.wf
  | .shrEv1 dst => dst.wf
  | .sarEv1 dst => dst.wf
  | .notUsedD1 modrm => regIn modrm [6]
  | .rolEbCl dst => dst.wf
  | .rorEbCl dst => dst.wf
  | .rclEbCl dst => dst.wf
  | .rcrEbCl dst => dst.wf
  | .shlEbCl dst => dst.wf
  | .shrEbCl dst => dst.wf
  | .sarEbCl dst => dst.wf
  | .notUsedD2 modrm => regIn modrm [6]
  | .rolEvCl dst => dst.wf
  | .rorEvCl dst => dst.wf
  | .rclEvCl dst => dst.wf
  | .rcrEvCl dst => dst.wf
  | .shlEvCl dst => dst.wf
  | .shrEvCl dst => dst.wf
  | .sarEvCl dst => dst.wf
  | .notUsedD3 modrm => regIn modrm [6]
  | .refusedAam b => b != 0x0A
  | .refusedAad b => b != 0x0A
  | .esc _ _ rm => rm.wf
  | .loopne _ => true
  | .loope _ => true
  | .loop _ => true
  | .jcxz _ => true
  | .inAlIb _ => true
  | .inAxIb _ => true
  | .outIbAl _ => true
  | .outIbAx _ => true
  | .callNear _ => true
  | .jmpNear _ => true
  | .jmpFar _ _ => true
  | .jmpShort _ => true
  | .testEbIb a _ => a.wf
  | .notUsedF6 modrm => regIn modrm [1]
  | .notEb dst => dst.wf
  | .negEb dst => dst.wf
  | .mulEb src => src.wf
  | .imulEb src => src.wf
  | .divEb src => src.wf
  | .idivEb src => src.wf
  | .testEvIv a _ => a.wf
  | .notUsedF7 modrm => regIn modrm [1]
  | .notEv dst => dst.wf
  | .negEv dst => dst.wf
  | .mulEv src => src.wf
  | .imulEv src => src.wf
  | .divEv src => src.wf
  | .idivEv src => src.wf
  | .incEb dst => dst.wf
  | .decEb dst => dst.wf
  | .notUsedFE modrm => regIn modrm [2, 3, 4, 5, 6, 7]
  | .incEv dst => dst.wf
  | .decEv dst => dst.wf
  | .callEv target => target.wf
  | .callMem32 ptr => ptr.wf
  | .refusedCallMem32 _ => true
  | .jmpEv target => target.wf
  | .jmpMem32 ptr => ptr.wf
  | .refusedJmpMem32 _ => true
  | .pushEv src => src.wf
  | .notUsedFF modrm => regIn modrm [7]
  | .pushEs => true
  | .popEs => true
  | .pushCs => true
  | .notUsed0F => true
  | .pushSs => true
  | .popSs => true
  | .pushDs => true
  | .popDs => true
  | .segEs => true
  | .daa => true
  | .segCs => true
  | .das => true
  | .segSs => true
  | .aaa => true
  | .segDs => true
  | .aas => true
  | .nop => true
  | .xchgAxCx => true
  | .xchgAxDx => true
  | .xchgAxBx => true
  | .xchgAxSp => true
  | .xchgAxBp => true
  | .xchgAxSi => true
  | .xchgAxDi => true
  | .cbw => true
  | .cwd => true
  | .wait => true
  | .pushf => true
  | .popf => true
  | .sahf => true
  | .lahf => true
  | .movsb => true
  | .movsw => true
  | .cmpsb => true
  | .cmpsw => true
  | .stosb => true
  | .stosw => true
  | .lodsb => true
  | .lodsw => true
  | .scasb => true
  | .scasw => true
  | .ret => true
  | .retf => true
  | .int3 => true
  | .into => true
  | .iret => true
  | .aam => true
  | .aad => true
  | .notUsedD6 => true
  | .xlat => true
  | .inAlDx => true
  | .inAxDx => true
  | .outDxAl => true
  | .outDxAx => true
  | .lock => true
  | .notUsedF1 => true
  | .repne => true
  | .rep => true
  | .hlt => true
  | .cmc => true
  | .clc => true
  | .stc => true
  | .cli => true
  | .sti => true
  | .cld => true
  | .std => true

end Sys2Proof
end

