-- ==== Sys2Proof/Decode.lean ====
section
/-! DEFINITION. The decoder, total on any bytes (spec/30_encoding.md R70 to R109), and after it the encoder, written
from the same tables. Every pair of first bytes selects an entry (section 3, "disjoint and complete"), so the one
rejection is `truncated`: fewer bytes than the instruction has. A reserved encoding decodes to its own constructor, and
no displacement is read for it; its meaning is a refusal by name (R104 to R106). -/
namespace Sys2Proof

/-! ## Fields -/

/-- A word from its two bytes, the low byte stored first (R77, R78; spec/20_memory.md R47). -/
def wordOf (lo hi : Byte) : Word := hi ++ lo

/-- MOD, bits 7 and 6 of the second byte (R73). -/
def modField (b : Byte) : BitVec 2 := b.extractLsb' 6 2

/-- REG, bits 5 to 3 of the second byte (R73). -/
def regField (b : Byte) : BitVec 3 := b.extractLsb' 3 3

/-- R/M, bits 2 to 0 of the second byte (R73); also the register code of a one-byte opcode (R75). -/
def rmField (b : Byte) : BitVec 3 := b.extractLsb' 0 3

/-- `r8[code]` (R75). -/
def Reg8.ofCode (c : BitVec 3) : Reg8 :=
  match c.toNat with
  | 0 => .al | 1 => .cl | 2 => .dl | 3 => .bl | 4 => .ah | 5 => .ch | 6 => .dh | _ => .bh

/-- `r16[code]` (R75). -/
def Reg16.ofCode (c : BitVec 3) : Reg16 :=
  match c.toNat with
  | 0 => .ax | 1 => .cx | 2 => .dx | 3 => .bx | 4 => .sp | 5 => .bp | 6 => .si | _ => .di

/-- `sreg[code]` (R79). -/
def SReg.ofCode (c : BitVec 2) : SReg :=
  match c.toNat with
  | 0 => .es | 1 => .cs | 2 => .ss | _ => .ds

/-- The base and index part that R/M selects when it selects one (R76). -/
def EaBase.ofCode (c : BitVec 3) : EaBase :=
  match c.toNat with
  | 0 => .bxSi | 1 => .bxDi | 2 => .bpSi | 3 => .bpDi | 4 => .si | 5 => .di | 6 => .bp | _ => .bx

/-- The memory operand that MOD (not 11) and R/M select, with its displacement bytes (R74, R76, R77). -/
def takeMem (md : BitVec 2) (rm : BitVec 3) (bytes : List Byte) : Option (MemOp × List Byte) :=
  if md = 0 then
    if rm = 6 then
      match bytes with
      | lo :: hi :: rest => some (.direct (wordOf lo hi), rest)
      | _ => none
    else some (.indexed (EaBase.ofCode rm) .absent, bytes)
  else if md = 1 then
    match bytes with
    | d :: rest => some (.indexed (EaBase.ofCode rm) (.d8 d), rest)
    | _ => none
  else
    match bytes with
    | lo :: hi :: rest => some (.indexed (EaBase.ofCode rm) (.d16 (wordOf lo hi)), rest)
    | _ => none

/-- The 8-bit r/m operand of a second byte (R73, R84). -/
def takeEb (modrm : Byte) (bytes : List Byte) : Option (Eb × List Byte) :=
  if modField modrm = 3 then some (.reg (Reg8.ofCode (rmField modrm)), bytes)
  else (takeMem (modField modrm) (rmField modrm) bytes).map fun p => (.mem p.1, p.2)

/-- The 16-bit r/m operand of a second byte (R73, R84). -/
def takeEv (modrm : Byte) (bytes : List Byte) : Option (Ev × List Byte) :=
  if modField modrm = 3 then some (.reg (Reg16.ofCode (rmField modrm)), bytes)
  else (takeMem (modField modrm) (rmField modrm) bytes).map fun p => (.mem p.1, p.2)

/-! ## The opcode map -/

/-- What the REG field of a group opcode selects (R73, "XX /n"). -/
inductive GroupEntry where
  | eb (f : Eb → Instr)
  | ev (f : Ev → Instr)
  | ebIb (f : Eb → Byte → Instr)
  | evIb (f : Ev → Byte → Instr)
  | evIv (f : Ev → Word → Instr)
  | memOnly (f : MemOp → Instr) (refused : Reg16 → Instr)
  | reserved (f : Byte → Instr)

/-- What follows a first byte, and the instruction it makes (R88 to R95). -/
inductive Form where
  | bare (i : Instr)
  | imm8 (f : Byte → Instr)
  | imm16 (f : Word → Instr)
  | far (f : Word → Word → Instr)
  | ebGb (f : Eb → Reg8 → Instr)
  | evGv (f : Ev → Reg16 → Instr)
  | gbEb (f : Reg8 → Eb → Instr)
  | gvEv (f : Reg16 → Ev → Instr)
  | gvMem (f : Reg16 → MemOp → Instr) (refused : Reg16 → Reg16 → Instr)
  | evSeg (f : Ev → SReg → Instr) (reserved : Byte → Instr)
  | constant0A (i : Instr) (refused : Byte → Instr)
  | esc (f : BitVec 3 → Ev → Instr)
  | group (g0 g1 g2 g3 g4 g5 g6 g7 : GroupEntry)

/-- The entry that REG selects in a group. -/
def pickEntry (reg : BitVec 3) (g0 g1 g2 g3 g4 g5 g6 g7 : GroupEntry) : GroupEntry :=
  match reg.toNat with
  | 0 => g0 | 1 => g1 | 2 => g2 | 3 => g3 | 4 => g4 | 5 => g5 | 6 => g6 | _ => g7

/-- First bytes 00H to 0FH (R88). -/
def opcodeRow0 (low : Nat) : Form :=
  match low with
  | 0 => .ebGb .addEbGb
  | 1 => .evGv .addEvGv
  | 2 => .gbEb .addGbEb
  | 3 => .gvEv .addGvEv
  | 4 => .imm8 .addAlIb
  | 5 => .imm16 .addAxIv
  | 6 => .bare .pushEs
  | 7 => .bare .popEs
  | 8 => .ebGb .orEbGb
  | 9 => .evGv .orEvGv
  | 10 => .gbEb .orGbEb
  | 11 => .gvEv .orGvEv
  | 12 => .imm8 .orAlIb
  | 13 => .imm16 .orAxIv
  | 14 => .bare .pushCs
  | _ => .bare .notUsed0F

/-- First bytes 10H to 1FH (R88). -/
def opcodeRow1 (low : Nat) : Form :=
  match low with
  | 0 => .ebGb .adcEbGb
  | 1 => .evGv .adcEvGv
  | 2 => .gbEb .adcGbEb
  | 3 => .gvEv .adcGvEv
  | 4 => .imm8 .adcAlIb
  | 5 => .imm16 .adcAxIv
  | 6 => .bare .pushSs
  | 7 => .bare .popSs
  | 8 => .ebGb .sbbEbGb
  | 9 => .evGv .sbbEvGv
  | 10 => .gbEb .sbbGbEb
  | 11 => .gvEv .sbbGvEv
  | 12 => .imm8 .sbbAlIb
  | 13 => .imm16 .sbbAxIv
  | 14 => .bare .pushDs
  | _ => .bare .popDs

/-- First bytes 20H to 2FH (R88). -/
def opcodeRow2 (low : Nat) : Form :=
  match low with
  | 0 => .ebGb .andEbGb
  | 1 => .evGv .andEvGv
  | 2 => .gbEb .andGbEb
  | 3 => .gvEv .andGvEv
  | 4 => .imm8 .andAlIb
  | 5 => .imm16 .andAxIv
  | 6 => .bare .segEs
  | 7 => .bare .daa
  | 8 => .ebGb .subEbGb
  | 9 => .evGv .subEvGv
  | 10 => .gbEb .subGbEb
  | 11 => .gvEv .subGvEv
  | 12 => .imm8 .subAlIb
  | 13 => .imm16 .subAxIv
  | 14 => .bare .segCs
  | _ => .bare .das

/-- First bytes 30H to 3FH (R88). -/
def opcodeRow3 (low : Nat) : Form :=
  match low with
  | 0 => .ebGb .xorEbGb
  | 1 => .evGv .xorEvGv
  | 2 => .gbEb .xorGbEb
  | 3 => .gvEv .xorGvEv
  | 4 => .imm8 .xorAlIb
  | 5 => .imm16 .xorAxIv
  | 6 => .bare .segSs
  | 7 => .bare .aaa
  | 8 => .ebGb .cmpEbGb
  | 9 => .evGv .cmpEvGv
  | 10 => .gbEb .cmpGbEb
  | 11 => .gvEv .cmpGvEv
  | 12 => .imm8 .cmpAlIb
  | 13 => .imm16 .cmpAxIv
  | 14 => .bare .segDs
  | _ => .bare .aas

/-- First bytes 40H to 4FH (R89). -/
def opcodeRow4 (low : Nat) : Form :=
  match low with
  | 0 => .bare (.incR16 .ax)
  | 1 => .bare (.incR16 .cx)
  | 2 => .bare (.incR16 .dx)
  | 3 => .bare (.incR16 .bx)
  | 4 => .bare (.incR16 .sp)
  | 5 => .bare (.incR16 .bp)
  | 6 => .bare (.incR16 .si)
  | 7 => .bare (.incR16 .di)
  | 8 => .bare (.decR16 .ax)
  | 9 => .bare (.decR16 .cx)
  | 10 => .bare (.decR16 .dx)
  | 11 => .bare (.decR16 .bx)
  | 12 => .bare (.decR16 .sp)
  | 13 => .bare (.decR16 .bp)
  | 14 => .bare (.decR16 .si)
  | _ => .bare (.decR16 .di)

/-- First bytes 50H to 5FH (R89). -/
def opcodeRow5 (low : Nat) : Form :=
  match low with
  | 0 => .bare (.pushR16 .ax)
  | 1 => .bare (.pushR16 .cx)
  | 2 => .bare (.pushR16 .dx)
  | 3 => .bare (.pushR16 .bx)
  | 4 => .bare (.pushR16 .sp)
  | 5 => .bare (.pushR16 .bp)
  | 6 => .bare (.pushR16 .si)
  | 7 => .bare (.pushR16 .di)
  | 8 => .bare (.popR16 .ax)
  | 9 => .bare (.popR16 .cx)
  | 10 => .bare (.popR16 .dx)
  | 11 => .bare (.popR16 .bx)
  | 12 => .bare (.popR16 .sp)
  | 13 => .bare (.popR16 .bp)
  | 14 => .bare (.popR16 .si)
  | _ => .bare (.popR16 .di)

/-- First bytes 60H to 6FH (R89). -/
def opcodeRow6 (low : Nat) : Form :=
  match low with
  | 0 => .bare (.notUsed60 0)
  | 1 => .bare (.notUsed60 1)
  | 2 => .bare (.notUsed60 2)
  | 3 => .bare (.notUsed60 3)
  | 4 => .bare (.notUsed60 4)
  | 5 => .bare (.notUsed60 5)
  | 6 => .bare (.notUsed60 6)
  | 7 => .bare (.notUsed60 7)
  | 8 => .bare (.notUsed60 8)
  | 9 => .bare (.notUsed60 9)
  | 10 => .bare (.notUsed60 10)
  | 11 => .bare (.notUsed60 11)
  | 12 => .bare (.notUsed60 12)
  | 13 => .bare (.notUsed60 13)
  | 14 => .bare (.notUsed60 14)
  | _ => .bare (.notUsed60 15)

/-- First bytes 70H to 7FH (R89). -/
def opcodeRow7 (low : Nat) : Form :=
  match low with
  | 0 => .imm8 .jo
  | 1 => .imm8 .jno
  | 2 => .imm8 .jb
  | 3 => .imm8 .jnb
  | 4 => .imm8 .je
  | 5 => .imm8 .jne
  | 6 => .imm8 .jbe
  | 7 => .imm8 .jnbe
  | 8 => .imm8 .js
  | 9 => .imm8 .jns
  | 10 => .imm8 .jp
  | 11 => .imm8 .jnp
  | 12 => .imm8 .jl
  | 13 => .imm8 .jnl
  | 14 => .imm8 .jle
  | _ => .imm8 .jnle

/-- First bytes 80H to 8FH (R90). -/
def opcodeRow8 (low : Nat) : Form :=
  match low with
  | 0 => .group (.ebIb .addEbIb) (.ebIb .orEbIb) (.ebIb .adcEbIb) (.ebIb .sbbEbIb) (.ebIb .andEbIb)
      (.ebIb .subEbIb) (.ebIb .xorEbIb) (.ebIb .cmpEbIb)
  | 1 => .group (.evIv .addEvIv) (.evIv .orEvIv) (.evIv .adcEvIv) (.evIv .sbbEvIv) (.evIv .andEvIv)
      (.evIv .subEvIv) (.evIv .xorEvIv) (.evIv .cmpEvIv)
  | 2 => .group (.ebIb .addEbIb82) (.reserved .notUsed82) (.ebIb .adcEbIb82) (.ebIb .sbbEbIb82)
      (.reserved .notUsed82) (.ebIb .subEbIb82) (.reserved .notUsed82) (.ebIb .cmpEbIb82)
  | 3 => .group (.evIb .addEvIs) (.reserved .notUsed83) (.evIb .adcEvIs) (.evIb .sbbEvIs)
      (.reserved .notUsed83) (.evIb .subEvIs) (.reserved .notUsed83) (.evIb .cmpEvIs)
  | 4 => .ebGb .testEbGb
  | 5 => .evGv .testEvGv
  | 6 => .gbEb .xchgGbEb
  | 7 => .gvEv .xchgGvEv
  | 8 => .ebGb .movEbGb
  | 9 => .evGv .movEvGv
  | 10 => .gbEb .movGbEb
  | 11 => .gvEv .movGvEv
  | 12 => .evSeg .movEvSeg .notUsed8C
  | 13 => .gvMem .lea .refusedLea
  | 14 => .group (.ev .movEsEv) (.reserved .refusedMovCs) (.ev .movSsEv) (.ev .movDsEv)
      (.reserved .notUsed8E)
      (.reserved .notUsed8E) (.reserved .notUsed8E)
      (.reserved .notUsed8E)
  | _ => .group (.ev .popEv) (.reserved .notUsed8F) (.reserved .notUsed8F) (.reserved .notUsed8F)
      (.reserved .notUsed8F) (.reserved .notUsed8F) (.reserved .notUsed8F)
      (.reserved .notUsed8F)

/-- First bytes 90H to 9FH (R91). -/
def opcodeRow9 (low : Nat) : Form :=
  match low with
  | 0 => .bare .nop
  | 1 => .bare .xchgAxCx
  | 2 => .bare .xchgAxDx
  | 3 => .bare .xchgAxBx
  | 4 => .bare .xchgAxSp
  | 5 => .bare .xchgAxBp
  | 6 => .bare .xchgAxSi
  | 7 => .bare .xchgAxDi
  | 8 => .bare .cbw
  | 9 => .bare .cwd
  | 10 => .far .callFar
  | 11 => .bare .wait
  | 12 => .bare .pushf
  | 13 => .bare .popf
  | 14 => .bare .sahf
  | _ => .bare .lahf

/-- First bytes A0H to AFH (R91). -/
def opcodeRowA (low : Nat) : Form :=
  match low with
  | 0 => .imm16 .movAlMem
  | 1 => .imm16 .movAxMem
  | 2 => .imm16 .movMemAl
  | 3 => .imm16 .movMemAx
  | 4 => .bare .movsb
  | 5 => .bare .movsw
  | 6 => .bare .cmpsb
  | 7 => .bare .cmpsw
  | 8 => .imm8 .testAlIb
  | 9 => .imm16 .testAxIv
  | 10 => .bare .stosb
  | 11 => .bare .stosw
  | 12 => .bare .lodsb
  | 13 => .bare .lodsw
  | 14 => .bare .scasb
  | _ => .bare .scasw

/-- First bytes B0H to BFH (R92). -/
def opcodeRowB (low : Nat) : Form :=
  match low with
  | 0 => .imm8 (.movR8Ib .al)
  | 1 => .imm8 (.movR8Ib .cl)
  | 2 => .imm8 (.movR8Ib .dl)
  | 3 => .imm8 (.movR8Ib .bl)
  | 4 => .imm8 (.movR8Ib .ah)
  | 5 => .imm8 (.movR8Ib .ch)
  | 6 => .imm8 (.movR8Ib .dh)
  | 7 => .imm8 (.movR8Ib .bh)
  | 8 => .imm16 (.movR16Iv .ax)
  | 9 => .imm16 (.movR16Iv .cx)
  | 10 => .imm16 (.movR16Iv .dx)
  | 11 => .imm16 (.movR16Iv .bx)
  | 12 => .imm16 (.movR16Iv .sp)
  | 13 => .imm16 (.movR16Iv .bp)
  | 14 => .imm16 (.movR16Iv .si)
  | _ => .imm16 (.movR16Iv .di)

/-- First bytes C0H to CFH (R92). -/
def opcodeRowC (low : Nat) : Form :=
  match low with
  | 0 => .bare (.notUsedC0 0)
  | 1 => .bare (.notUsedC0 1)
  | 2 => .imm16 .retPop
  | 3 => .bare .ret
  | 4 => .gvMem .les .refusedLes
  | 5 => .gvMem .lds .refusedLds
  | 6 => .group (.ebIb .movEbIb) (.reserved .notUsedC6) (.reserved .notUsedC6) (.reserved .notUsedC6)
      (.reserved .notUsedC6) (.reserved .notUsedC6) (.reserved .notUsedC6)
      (.reserved .notUsedC6)
  | 7 => .group (.evIv .movEvIv) (.reserved .notUsedC7) (.reserved .notUsedC7) (.reserved .notUsedC7)
      (.reserved .notUsedC7) (.reserved .notUsedC7) (.reserved .notUsedC7)
      (.reserved .notUsedC7)
  | 8 => .bare (.notUsedC8 0)
  | 9 => .bare (.notUsedC8 1)
  | 10 => .imm16 .retfPop
  | 11 => .bare .retf
  | 12 => .bare .int3
  | 13 => .imm8 .intIb
  | 14 => .bare .into
  | _ => .bare .iret

/-- First bytes D0H to DFH (R93). -/
def opcodeRowD (low : Nat) : Form :=
  match low with
  | 0 => .group (.eb .rolEb1) (.eb .rorEb1) (.eb .rclEb1) (.eb .rcrEb1) (.eb .shlEb1) (.eb .shrEb1)
      (.reserved .notUsedD0) (.eb .sarEb1)
  | 1 => .group (.ev .rolEv1) (.ev .rorEv1) (.ev .rclEv1) (.ev .rcrEv1) (.ev .shlEv1) (.ev .shrEv1)
      (.reserved .notUsedD1) (.ev .sarEv1)
  | 2 => .group (.eb .rolEbCl) (.eb .rorEbCl) (.eb .rclEbCl) (.eb .rcrEbCl) (.eb .shlEbCl)
      (.eb .shrEbCl) (.reserved .notUsedD2) (.eb .sarEbCl)
  | 3 => .group (.ev .rolEvCl) (.ev .rorEvCl) (.ev .rclEvCl) (.ev .rcrEvCl) (.ev .shlEvCl)
      (.ev .shrEvCl) (.reserved .notUsedD3) (.ev .sarEvCl)
  | 4 => .constant0A .aam .refusedAam
  | 5 => .constant0A .aad .refusedAad
  | 6 => .bare .notUsedD6
  | 7 => .bare .xlat
  | 8 => .esc (.esc 0)
  | 9 => .esc (.esc 1)
  | 10 => .esc (.esc 2)
  | 11 => .esc (.esc 3)
  | 12 => .esc (.esc 4)
  | 13 => .esc (.esc 5)
  | 14 => .esc (.esc 6)
  | _ => .esc (.esc 7)

/-- First bytes E0H to EFH (R94). -/
def opcodeRowE (low : Nat) : Form :=
  match low with
  | 0 => .imm8 .loopne
  | 1 => .imm8 .loope
  | 2 => .imm8 .loop
  | 3 => .imm8 .jcxz
  | 4 => .imm8 .inAlIb
  | 5 => .imm8 .inAxIb
  | 6 => .imm8 .outIbAl
  | 7 => .imm8 .outIbAx
  | 8 => .imm16 .callNear
  | 9 => .imm16 .jmpNear
  | 10 => .far .jmpFar
  | 11 => .imm8 .jmpShort
  | 12 => .bare .inAlDx
  | 13 => .bare .inAxDx
  | 14 => .bare .outDxAl
  | _ => .bare .outDxAx

/-- First bytes F0H to FFH (R95). -/
def opcodeRowF (low : Nat) : Form :=
  match low with
  | 0 => .bare .lock
  | 1 => .bare .notUsedF1
  | 2 => .bare .repne
  | 3 => .bare .rep
  | 4 => .bare .hlt
  | 5 => .bare .cmc
  | 6 => .group (.ebIb .testEbIb) (.reserved .notUsedF6) (.eb .notEb) (.eb .negEb) (.eb .mulEb)
      (.eb .imulEb)
      (.eb .divEb) (.eb .idivEb)
  | 7 => .group (.evIv .testEvIv) (.reserved .notUsedF7) (.ev .notEv) (.ev .negEv) (.ev .mulEv)
      (.ev .imulEv)
      (.ev .divEv) (.ev .idivEv)
  | 8 => .bare .clc
  | 9 => .bare .stc
  | 10 => .bare .cli
  | 11 => .bare .sti
  | 12 => .bare .cld
  | 13 => .bare .std
  | 14 => .group (.eb .incEb) (.eb .decEb) (.reserved .notUsedFE) (.reserved .notUsedFE)
      (.reserved .notUsedFE) (.reserved .notUsedFE) (.reserved .notUsedFE)
      (.reserved .notUsedFE)
  | _ => .group (.ev .incEv) (.ev .decEv) (.ev .callEv) (.memOnly .callMem32 .refusedCallMem32)
      (.ev .jmpEv)
      (.memOnly .jmpMem32 .refusedJmpMem32) (.ev .pushEv)
      (.reserved .notUsedFF)

/-- The opcode map (R88 to R95): what each first byte selects, by its high nibble and then its low nibble. -/
def opcodeMap (b : Byte) : Form :=
  let low := b.toNat % 16
  match b.toNat / 16 with
  | 0 => opcodeRow0 low
  | 1 => opcodeRow1 low
  | 2 => opcodeRow2 low
  | 3 => opcodeRow3 low
  | 4 => opcodeRow4 low
  | 5 => opcodeRow5 low
  | 6 => opcodeRow6 low
  | 7 => opcodeRow7 low
  | 8 => opcodeRow8 low
  | 9 => opcodeRow9 low
  | 10 => opcodeRowA low
  | 11 => opcodeRowB low
  | 12 => opcodeRowC low
  | 13 => opcodeRowD low
  | 14 => opcodeRowE low
  | _ => opcodeRowF low

/-! ## Decoding -/

/-- Decode the operands of a group entry, the second byte already read (R87 steps 3 and 4). -/
def GroupEntry.decode (g : GroupEntry) (modrm : Byte) (bytes : List Byte) : Option (Instr × List Byte) :=
  match g with
  | .eb f => (takeEb modrm bytes).map fun p => (f p.1, p.2)
  | .ev f => (takeEv modrm bytes).map fun p => (f p.1, p.2)
  | .ebIb f =>
    match takeEb modrm bytes with
    | some (e, imm :: rest) => some (f e imm, rest)
    | _ => none
  | .evIb f =>
    match takeEv modrm bytes with
    | some (e, imm :: rest) => some (f e imm, rest)
    | _ => none
  | .evIv f =>
    match takeEv modrm bytes with
    | some (e, lo :: hi :: rest) => some (f e (wordOf lo hi), rest)
    | _ => none
  | .memOnly f refused =>
    if modField modrm = 3 then some (refused (Reg16.ofCode (rmField modrm)), bytes)
    else (takeMem (modField modrm) (rmField modrm) bytes).map fun p => (f p.1, p.2)
  | .reserved f => some (f modrm, bytes)

/-- Decode what follows a first byte (R87 steps 2 to 4). -/
def Form.decode (form : Form) (bytes : List Byte) : Option (Instr × List Byte) :=
  match form, bytes with
  | .bare i, rest => some (i, rest)
  | .imm8 f, imm :: rest => some (f imm, rest)
  | .imm16 f, lo :: hi :: rest => some (f (wordOf lo hi), rest)
  | .far f, a :: b :: c :: d :: rest => some (f (wordOf a b) (wordOf c d), rest)
  | .ebGb f, m :: rest => (takeEb m rest).map fun p => (f p.1 (Reg8.ofCode (regField m)), p.2)
  | .evGv f, m :: rest => (takeEv m rest).map fun p => (f p.1 (Reg16.ofCode (regField m)), p.2)
  | .gbEb f, m :: rest => (takeEb m rest).map fun p => (f (Reg8.ofCode (regField m)) p.1, p.2)
  | .gvEv f, m :: rest => (takeEv m rest).map fun p => (f (Reg16.ofCode (regField m)) p.1, p.2)
  | .gvMem f refused, m :: rest =>
    if modField m = 3 then some (refused (Reg16.ofCode (regField m)) (Reg16.ofCode (rmField m)), rest)
    else (takeMem (modField m) (rmField m) rest).map fun p => (f (Reg16.ofCode (regField m)) p.1, p.2)
  | .evSeg f reserved, m :: rest =>
    if m.getLsbD 5 then some (reserved m, rest)
    else (takeEv m rest).map fun p => (f p.1 (SReg.ofCode (m.extractLsb' 3 2)), p.2)
  | .constant0A i refused, b :: rest => some (if b = 0x0A then i else refused b, rest)
  | .esc f, m :: rest => (takeEv m rest).map fun p => (f (regField m) p.1, p.2)
  | .group g0 g1 g2 g3 g4 g5 g6 g7, m :: rest =>
    (pickEntry (regField m) g0 g1 g2 g3 g4 g5 g6 g7).decode m rest
  | _, _ => none

/-- What the decoder answers: an instruction and the bytes after it, or `truncated`, when the list ends inside the
instruction (never with six bytes or more, R70). -/
inductive Decoded where
  | instr (i : Instr) (rest : List Byte)
  | truncated
deriving DecidableEq, Repr

/-- Decode one instruction at the head of a list of bytes (R87). A prefix byte decodes to its own constructor; the step
loops over them. -/
def decode (bytes : List Byte) : Decoded :=
  match bytes with
  | [] => .truncated
  | b :: rest =>
    match (opcodeMap b).decode rest with
    | some (i, rest') => .instr i rest'
    | none => .truncated

/-! ## Encoding -/

/-- The code of an 8-bit register (R75). -/
def Reg8.code : Reg8 → BitVec 3
  | .al => 0 | .cl => 1 | .dl => 2 | .bl => 3 | .ah => 4 | .ch => 5 | .dh => 6 | .bh => 7

/-- The code of a 16-bit register (R75). -/
def Reg16.code : Reg16 → BitVec 3
  | .ax => 0 | .cx => 1 | .dx => 2 | .bx => 3 | .sp => 4 | .bp => 5 | .si => 6 | .di => 7

/-- The code of a segment register (R79). -/
def SReg.code : SReg → BitVec 2
  | .es => 0 | .cs => 1 | .ss => 2 | .ds => 3

/-- The R/M code of a base and index part (R76). -/
def EaBase.code : EaBase → BitVec 3
  | .bxSi => 0 | .bxDi => 1 | .bpSi => 2 | .bpDi => 3 | .si => 4 | .di => 5 | .bp => 6 | .bx => 7

/-- The second byte from its three fields (R73). -/
def mkModrm (md : BitVec 2) (reg rm : BitVec 3) : Byte := md ++ reg ++ rm

/-- A word's two bytes, low byte first (R77, R78). -/
def encWord (w : Word) : List Byte := [w.extractLsb' 0 8, w.extractLsb' 8 8]

/-- The second byte and displacement of a memory operand (R74, R76). -/
def encMem (m : MemOp) (reg : BitVec 3) : List Byte :=
  match m with
  | .direct off => mkModrm 0 reg 6 :: encWord off
  | .indexed b .absent => [mkModrm 0 reg b.code]
  | .indexed b (.d8 d) => [mkModrm 1 reg b.code, d]
  | .indexed b (.d16 w) => mkModrm 2 reg b.code :: encWord w

/-- The second byte and displacement of an 8-bit r/m operand (R73, R75). -/
def encEb (e : Eb) (reg : BitVec 3) : List Byte :=
  match e with
  | .reg r => [mkModrm 3 reg r.code]
  | .mem m => encMem m reg

/-- The second byte and displacement of a 16-bit r/m operand (R73, R75). -/
def encEv (e : Ev) (reg : BitVec 3) : List Byte :=
  match e with
  | .reg r => [mkModrm 3 reg r.code]
  | .mem m => encMem m reg

/-- The bytes of an instruction, in the order they are stored (R70, R88 to R106). -/
def encode (i : Instr) : List Byte :=
  match i with
  | .addEbGb dst src => 0x00 :: encEb dst src.code
  | .addEvGv dst src => 0x01 :: encEv dst src.code
  | .addGbEb dst src => 0x02 :: encEb src dst.code
  | .addGvEv dst src => 0x03 :: encEv src dst.code
  | .addAlIb imm => [0x04, imm]
  | .addAxIv imm => 0x05 :: encWord imm
  | .orEbGb dst src => 0x08 :: encEb dst src.code
  | .orEvGv dst src => 0x09 :: encEv dst src.code
  | .orGbEb dst src => 0x0A :: encEb src dst.code
  | .orGvEv dst src => 0x0B :: encEv src dst.code
  | .orAlIb imm => [0x0C, imm]
  | .orAxIv imm => 0x0D :: encWord imm
  | .adcEbGb dst src => 0x10 :: encEb dst src.code
  | .adcEvGv dst src => 0x11 :: encEv dst src.code
  | .adcGbEb dst src => 0x12 :: encEb src dst.code
  | .adcGvEv dst src => 0x13 :: encEv src dst.code
  | .adcAlIb imm => [0x14, imm]
  | .adcAxIv imm => 0x15 :: encWord imm
  | .sbbEbGb dst src => 0x18 :: encEb dst src.code
  | .sbbEvGv dst src => 0x19 :: encEv dst src.code
  | .sbbGbEb dst src => 0x1A :: encEb src dst.code
  | .sbbGvEv dst src => 0x1B :: encEv src dst.code
  | .sbbAlIb imm => [0x1C, imm]
  | .sbbAxIv imm => 0x1D :: encWord imm
  | .andEbGb dst src => 0x20 :: encEb dst src.code
  | .andEvGv dst src => 0x21 :: encEv dst src.code
  | .andGbEb dst src => 0x22 :: encEb src dst.code
  | .andGvEv dst src => 0x23 :: encEv src dst.code
  | .andAlIb imm => [0x24, imm]
  | .andAxIv imm => 0x25 :: encWord imm
  | .subEbGb dst src => 0x28 :: encEb dst src.code
  | .subEvGv dst src => 0x29 :: encEv dst src.code
  | .subGbEb dst src => 0x2A :: encEb src dst.code
  | .subGvEv dst src => 0x2B :: encEv src dst.code
  | .subAlIb imm => [0x2C, imm]
  | .subAxIv imm => 0x2D :: encWord imm
  | .xorEbGb dst src => 0x30 :: encEb dst src.code
  | .xorEvGv dst src => 0x31 :: encEv dst src.code
  | .xorGbEb dst src => 0x32 :: encEb src dst.code
  | .xorGvEv dst src => 0x33 :: encEv src dst.code
  | .xorAlIb imm => [0x34, imm]
  | .xorAxIv imm => 0x35 :: encWord imm
  | .cmpEbGb dst src => 0x38 :: encEb dst src.code
  | .cmpEvGv dst src => 0x39 :: encEv dst src.code
  | .cmpGbEb dst src => 0x3A :: encEb src dst.code
  | .cmpGvEv dst src => 0x3B :: encEv src dst.code
  | .cmpAlIb imm => [0x3C, imm]
  | .cmpAxIv imm => 0x3D :: encWord imm
  | .incR16 r => [0x40 ||| r.code.setWidth 8]
  | .decR16 r => [0x48 ||| r.code.setWidth 8]
  | .pushR16 r => [0x50 ||| r.code.setWidth 8]
  | .popR16 r => [0x58 ||| r.code.setWidth 8]
  | .notUsed60 low => [0x60 ||| low.setWidth 8]
  | .jo inc => [0x70, inc]
  | .jno inc => [0x71, inc]
  | .jb inc => [0x72, inc]
  | .jnb inc => [0x73, inc]
  | .je inc => [0x74, inc]
  | .jne inc => [0x75, inc]
  | .jbe inc => [0x76, inc]
  | .jnbe inc => [0x77, inc]
  | .js inc => [0x78, inc]
  | .jns inc => [0x79, inc]
  | .jp inc => [0x7A, inc]
  | .jnp inc => [0x7B, inc]
  | .jl inc => [0x7C, inc]
  | .jnl inc => [0x7D, inc]
  | .jle inc => [0x7E, inc]
  | .jnle inc => [0x7F, inc]
  | .addEbIb dst imm => 0x80 :: (encEb dst 0 ++ [imm])
  | .orEbIb dst imm => 0x80 :: (encEb dst 1 ++ [imm])
  | .adcEbIb dst imm => 0x80 :: (encEb dst 2 ++ [imm])
  | .sbbEbIb dst imm => 0x80 :: (encEb dst 3 ++ [imm])
  | .andEbIb dst imm => 0x80 :: (encEb dst 4 ++ [imm])
  | .subEbIb dst imm => 0x80 :: (encEb dst 5 ++ [imm])
  | .xorEbIb dst imm => 0x80 :: (encEb dst 6 ++ [imm])
  | .cmpEbIb dst imm => 0x80 :: (encEb dst 7 ++ [imm])
  | .addEvIv dst imm => 0x81 :: (encEv dst 0 ++ encWord imm)
  | .orEvIv dst imm => 0x81 :: (encEv dst 1 ++ encWord imm)
  | .adcEvIv dst imm => 0x81 :: (encEv dst 2 ++ encWord imm)
  | .sbbEvIv dst imm => 0x81 :: (encEv dst 3 ++ encWord imm)
  | .andEvIv dst imm => 0x81 :: (encEv dst 4 ++ encWord imm)
  | .subEvIv dst imm => 0x81 :: (encEv dst 5 ++ encWord imm)
  | .xorEvIv dst imm => 0x81 :: (encEv dst 6 ++ encWord imm)
  | .cmpEvIv dst imm => 0x81 :: (encEv dst 7 ++ encWord imm)
  | .addEbIb82 dst imm => 0x82 :: (encEb dst 0 ++ [imm])
  | .adcEbIb82 dst imm => 0x82 :: (encEb dst 2 ++ [imm])
  | .sbbEbIb82 dst imm => 0x82 :: (encEb dst 3 ++ [imm])
  | .subEbIb82 dst imm => 0x82 :: (encEb dst 5 ++ [imm])
  | .cmpEbIb82 dst imm => 0x82 :: (encEb dst 7 ++ [imm])
  | .notUsed82 modrm => [0x82, modrm]
  | .addEvIs dst imm => 0x83 :: (encEv dst 0 ++ [imm])
  | .adcEvIs dst imm => 0x83 :: (encEv dst 2 ++ [imm])
  | .sbbEvIs dst imm => 0x83 :: (encEv dst 3 ++ [imm])
  | .subEvIs dst imm => 0x83 :: (encEv dst 5 ++ [imm])
  | .cmpEvIs dst imm => 0x83 :: (encEv dst 7 ++ [imm])
  | .notUsed83 modrm => [0x83, modrm]
  | .testEbGb a b => 0x84 :: encEb a b.code
  | .testEvGv a b => 0x85 :: encEv a b.code
  | .xchgGbEb r rm => 0x86 :: encEb rm r.code
  | .xchgGvEv r rm => 0x87 :: encEv rm r.code
  | .movEbGb dst src => 0x88 :: encEb dst src.code
  | .movEvGv dst src => 0x89 :: encEv dst src.code
  | .movGbEb dst src => 0x8A :: encEb src dst.code
  | .movGvEv dst src => 0x8B :: encEv src dst.code
  | .movEvSeg dst src => 0x8C :: encEv dst (src.code.setWidth 3)
  | .notUsed8C modrm => [0x8C, modrm]
  | .lea dst src => 0x8D :: encMem src dst.code
  | .refusedLea dst src => [0x8D, mkModrm 3 dst.code src.code]
  | .movEsEv src => 0x8E :: encEv src 0
  | .refusedMovCs modrm => [0x8E, modrm]
  | .movSsEv src => 0x8E :: encEv src 2
  | .movDsEv src => 0x8E :: encEv src 3
  | .notUsed8E modrm => [0x8E, modrm]
  | .popEv dst => 0x8F :: encEv dst 0
  | .notUsed8F modrm => [0x8F, modrm]
  | .callFar off base => 0x9A :: (encWord off ++ encWord base)
  | .movAlMem off => 0xA0 :: encWord off
  | .movAxMem off => 0xA1 :: encWord off
  | .movMemAl off => 0xA2 :: encWord off
  | .movMemAx off => 0xA3 :: encWord off
  | .testAlIb imm => [0xA8, imm]
  | .testAxIv imm => 0xA9 :: encWord imm
  | .movR8Ib r imm => [0xB0 ||| r.code.setWidth 8, imm]
  | .movR16Iv r imm => (0xB8 ||| r.code.setWidth 8) :: encWord imm
  | .notUsedC0 low => [0xC0 ||| low.setWidth 8]
  | .retPop n => 0xC2 :: encWord n
  | .les dst src => 0xC4 :: encMem src dst.code
  | .refusedLes dst src => [0xC4, mkModrm 3 dst.code src.code]
  | .lds dst src => 0xC5 :: encMem src dst.code
  | .refusedLds dst src => [0xC5, mkModrm 3 dst.code src.code]
  | .movEbIb dst imm => 0xC6 :: (encEb dst 0 ++ [imm])
  | .notUsedC6 modrm => [0xC6, modrm]
  | .movEvIv dst imm => 0xC7 :: (encEv dst 0 ++ encWord imm)
  | .notUsedC7 modrm => [0xC7, modrm]
  | .notUsedC8 low => [0xC8 ||| low.setWidth 8]
  | .retfPop n => 0xCA :: encWord n
  | .intIb n => [0xCD, n]
  | .rolEb1 dst => 0xD0 :: encEb dst 0
  | .rorEb1 dst => 0xD0 :: encEb dst 1
  | .rclEb1 dst => 0xD0 :: encEb dst 2
  | .rcrEb1 dst => 0xD0 :: encEb dst 3
  | .shlEb1 dst => 0xD0 :: encEb dst 4
  | .shrEb1 dst => 0xD0 :: encEb dst 5
  | .sarEb1 dst => 0xD0 :: encEb dst 7
  | .notUsedD0 modrm => [0xD0, modrm]
  | .rolEv1 dst => 0xD1 :: encEv dst 0
  | .rorEv1 dst => 0xD1 :: encEv dst 1
  | .rclEv1 dst => 0xD1 :: encEv dst 2
  | .rcrEv1 dst => 0xD1 :: encEv dst 3
  | .shlEv1 dst => 0xD1 :: encEv dst 4
  | .shrEv1 dst => 0xD1 :: encEv dst 5
  | .sarEv1 dst => 0xD1 :: encEv dst 7
  | .notUsedD1 modrm => [0xD1, modrm]
  | .rolEbCl dst => 0xD2 :: encEb dst 0
  | .rorEbCl dst => 0xD2 :: encEb dst 1
  | .rclEbCl dst => 0xD2 :: encEb dst 2
  | .rcrEbCl dst => 0xD2 :: encEb dst 3
  | .shlEbCl dst => 0xD2 :: encEb dst 4
  | .shrEbCl dst => 0xD2 :: encEb dst 5
  | .sarEbCl dst => 0xD2 :: encEb dst 7
  | .notUsedD2 modrm => [0xD2, modrm]
  | .rolEvCl dst => 0xD3 :: encEv dst 0
  | .rorEvCl dst => 0xD3 :: encEv dst 1
  | .rclEvCl dst => 0xD3 :: encEv dst 2
  | .rcrEvCl dst => 0xD3 :: encEv dst 3
  | .shlEvCl dst => 0xD3 :: encEv dst 4
  | .shrEvCl dst => 0xD3 :: encEv dst 5
  | .sarEvCl dst => 0xD3 :: encEv dst 7
  | .notUsedD3 modrm => [0xD3, modrm]
  | .refusedAam b => [0xD4, b]
  | .refusedAad b => [0xD5, b]
  | .esc x y rm => (0xD8 ||| x.setWidth 8) :: encEv rm y
  | .loopne inc => [0xE0, inc]
  | .loope inc => [0xE1, inc]
  | .loop inc => [0xE2, inc]
  | .jcxz inc => [0xE3, inc]
  | .inAlIb port => [0xE4, port]
  | .inAxIb port => [0xE5, port]
  | .outIbAl port => [0xE6, port]
  | .outIbAx port => [0xE7, port]
  | .callNear inc => 0xE8 :: encWord inc
  | .jmpNear inc => 0xE9 :: encWord inc
  | .jmpFar off base => 0xEA :: (encWord off ++ encWord base)
  | .jmpShort inc => [0xEB, inc]
  | .testEbIb a imm => 0xF6 :: (encEb a 0 ++ [imm])
  | .notUsedF6 modrm => [0xF6, modrm]
  | .notEb dst => 0xF6 :: encEb dst 2
  | .negEb dst => 0xF6 :: encEb dst 3
  | .mulEb src => 0xF6 :: encEb src 4
  | .imulEb src => 0xF6 :: encEb src 5
  | .divEb src => 0xF6 :: encEb src 6
  | .idivEb src => 0xF6 :: encEb src 7
  | .testEvIv a imm => 0xF7 :: (encEv a 0 ++ encWord imm)
  | .notUsedF7 modrm => [0xF7, modrm]
  | .notEv dst => 0xF7 :: encEv dst 2
  | .negEv dst => 0xF7 :: encEv dst 3
  | .mulEv src => 0xF7 :: encEv src 4
  | .imulEv src => 0xF7 :: encEv src 5
  | .divEv src => 0xF7 :: encEv src 6
  | .idivEv src => 0xF7 :: encEv src 7
  | .incEb dst => 0xFE :: encEb dst 0
  | .decEb dst => 0xFE :: encEb dst 1
  | .notUsedFE modrm => [0xFE, modrm]
  | .incEv dst => 0xFF :: encEv dst 0
  | .decEv dst => 0xFF :: encEv dst 1
  | .callEv target => 0xFF :: encEv target 2
  | .callMem32 ptr => 0xFF :: encMem ptr 3
  | .refusedCallMem32 r => [0xFF, mkModrm 3 3 r.code]
  | .jmpEv target => 0xFF :: encEv target 4
  | .jmpMem32 ptr => 0xFF :: encMem ptr 5
  | .refusedJmpMem32 r => [0xFF, mkModrm 3 5 r.code]
  | .pushEv src => 0xFF :: encEv src 6
  | .notUsedFF modrm => [0xFF, modrm]
  | .pushEs => [0x06]
  | .popEs => [0x07]
  | .pushCs => [0x0E]
  | .notUsed0F => [0x0F]
  | .pushSs => [0x16]
  | .popSs => [0x17]
  | .pushDs => [0x1E]
  | .popDs => [0x1F]
  | .segEs => [0x26]
  | .daa => [0x27]
  | .segCs => [0x2E]
  | .das => [0x2F]
  | .segSs => [0x36]
  | .aaa => [0x37]
  | .segDs => [0x3E]
  | .aas => [0x3F]
  | .nop => [0x90]
  | .xchgAxCx => [0x91]
  | .xchgAxDx => [0x92]
  | .xchgAxBx => [0x93]
  | .xchgAxSp => [0x94]
  | .xchgAxBp => [0x95]
  | .xchgAxSi => [0x96]
  | .xchgAxDi => [0x97]
  | .cbw => [0x98]
  | .cwd => [0x99]
  | .wait => [0x9B]
  | .pushf => [0x9C]
  | .popf => [0x9D]
  | .sahf => [0x9E]
  | .lahf => [0x9F]
  | .movsb => [0xA4]
  | .movsw => [0xA5]
  | .cmpsb => [0xA6]
  | .cmpsw => [0xA7]
  | .stosb => [0xAA]
  | .stosw => [0xAB]
  | .lodsb => [0xAC]
  | .lodsw => [0xAD]
  | .scasb => [0xAE]
  | .scasw => [0xAF]
  | .ret => [0xC3]
  | .retf => [0xCB]
  | .int3 => [0xCC]
  | .into => [0xCE]
  | .iret => [0xCF]
  | .aam => [0xD4, 0x0A]
  | .aad => [0xD5, 0x0A]
  | .notUsedD6 => [0xD6]
  | .xlat => [0xD7]
  | .inAlDx => [0xEC]
  | .inAxDx => [0xED]
  | .outDxAl => [0xEE]
  | .outDxAx => [0xEF]
  | .lock => [0xF0]
  | .notUsedF1 => [0xF1]
  | .repne => [0xF2]
  | .rep => [0xF3]
  | .hlt => [0xF4]
  | .cmc => [0xF5]
  | .clc => [0xF8]
  | .stc => [0xF9]
  | .cli => [0xFA]
  | .sti => [0xFB]
  | .cld => [0xFC]
  | .std => [0xFD]

/-! ## The opcode table's numbering -/

/-- The bytes of a table row's number. The table writes a row of one byte as bits 7 to 0 and a row of two bytes as one
16-bit number with the FIRST byte in the high half (spec/30_encoding.md section 3, "How to read `opcode_table.json`";
log 17). Bytes the table gives no bits are zero, up to the six bytes of the longest instruction (R70). -/
def tableBytes (nbits w : Nat) : List Byte :=
  let n := nbits / 8
  let byteAt := fun k => if k < n then BitVec.ofNat 8 (w >>> (8 * (n - 1 - k))) else 0
  [byteAt 0, byteAt 1, byteAt 2, byteAt 3, byteAt 4, byteAt 5]

/-- The instruction the decoder reads from a table row's number; `none` where it rejects. -/
def decodeTableWord (nbits w : Nat) : Option Instr :=
  match decode (tableBytes nbits w) with
  | .instr i _ => some i
  | .truncated => none

end Sys2Proof
end

