-- ==== Sys2Proof/Config.lean ====
section
/-! DEFINITION. The values the spec leaves open, as constants without a body: nothing can be proved of a value of one of
them, so a statement that holds holds for every choice (spec/00_scope.md R8; spec/93_implementation_defined.md). -/
namespace Sys2Proof

/-- The six status flags (spec/10_state.md section 3), the ones Table 1-16 may mark undefined. -/
inductive StatusFlag where
  | cF | pF | aF | zF | sF | oF
deriving DecidableEq, Repr

/-- `undef_flag` (R8, R11, U1; log 3): the bit a flag marked "U" receives. The first argument is the model's draw
counter, so that two draws are unrelated. -/
opaque Config.undefFlag : Nat → StatusFlag → Bool

/-- `reset_regs` (R8, R36, R312; log 4): what a general register, named by its R13 code, holds after the RESET pin is
released. The first argument is the draw counter. -/
opaque Config.resetReg : Nat → Nat → Word

/-- `io_read` (R8, R50; log 8): the byte a port gives when the platform has queued no answer. The first argument is the
draw counter, the second the port. -/
opaque Config.portByte : Nat → Word → Byte

/-- `queue_policy` (R8, R58; log 9): whether the instruction byte at this distance after the storing instruction had
been prefetched before the store, so that its old value is executed. The first argument is the draw counter. -/
opaque Config.queueKeepsOld : Nat → Nat → Bool

/-- How many bytes beyond an instruction, up to the queue's size, have been prefetched when it executes: timing that R57
and R322 leave open (log 38). The argument is the draw counter. -/
opaque Config.bytesAhead : Nat → Nat

end Sys2Proof
end

