-- ==== Sys2Proof/Machine/State.lean ====
section
/-! DEFINITION. The state of the machine as plain data: everything spec/10_state.md gives the 8086/8088, the levels the
platform puts on its pins, and the model's own bookkeeping (INVENTORY.md, "State"). -/
namespace Sys2Proof.Machine

/-- The nine flags, each one bit of state (spec/10_state.md R16 to R24). The other seven bits of the flags word hold no
state (R23). -/
structure Flags where
  cF : Bool
  pF : Bool
  aF : Bool
  zF : Bool
  sF : Bool
  tF : Bool
  iF : Bool
  dF : Bool
  oF : Bool
deriving DecidableEq, Repr

/-- The run state (R34). `waiting next` is WAIT with TEST* not asserted; `next` is the offset after the WAIT, and IP
stays at its first byte (spec/45_processor_control.md R259). R34's `bus_released` is `State.busReleased`, since the bus
may be released in any of these. -/
inductive RunState where
  | running
  | halted
  | waiting (next : Word)
  | inReset
deriving DecidableEq, Repr

/-- Which part (spec/00_scope.md R2, R8). -/
inductive Variant where
  | i8086
  | i8088
deriving DecidableEq, Repr

/-- The strap of the pin MN/MX* (R3, R8). -/
inductive BusMode where
  | minimum
  | maximum
deriving DecidableEq, Repr

/-- What the platform puts behind a physical address (spec/20_memory.md R63). -/
inductive Storage where
  | ram
  | rom
  | device
  | nothing
deriving DecidableEq, Repr

/-- One range of the platform's memory map, both ends included (R63). -/
structure Region where
  first : Nat
  last : Nat
  kind : Storage
deriving DecidableEq, Repr

/-- The parameters of R8 that are fixed for one machine, and the memory map that R63 takes from the platform: no
instruction changes them. An address in no region of `map` is RAM; in several, the first one counts (log 35). -/
structure Params where
  variant : Variant
  busMode : BusMode
  stiDelay : Bool
  map : List Region
deriving DecidableEq, Repr

/-- What is behind a physical address (R63). -/
def Params.kindAt (p : Params) (a : Nat) : Storage :=
  match p.map.find? (fun r => decide (r.first ≤ a) && decide (a ≤ r.last)) with
  | some r => r.kind
  | none => .ram

/-- The two bus-request lines of the maximum mode (R3, R62). -/
inductive GrantLine where
  | gt0
  | gt1
deriving DecidableEq, Repr

/-- Who asks for the bus: HOLD in minimum mode, RQ*/GT0* or RQ*/GT1* in maximum mode (R3, R62). -/
inductive BusMaster where
  | hold
  | line (l : GrantLine)
deriving DecidableEq, Repr

/-- The levels on the input pins that the CPU samples and does not latch (R35; spec/60_exceptions.md R276, R281).
`intrType` is the byte the platform would supply on the second INTA cycle. `hold` is a pin of the minimum mode; `rq0`
and `rq1` say that a request pulse on RQ*/GT0* or RQ*/GT1*, pins of the maximum mode, has come and no release pulse yet
(R3, R62). -/
structure Pins where
  intrLine : Bool
  intrType : Byte
  testLow : Bool
  reset : Bool
  hold : Bool
  rq0 : Bool
  rq1 : Bool
deriving DecidableEq, Repr

/-- What the platform does between two points at which the CPU looks (R8, R12). `hold` is the level of HOLD; `rq` is a
pulse on RQ*/GT0* or RQ*/GT1* that requests the bus or gives it back (R3, R62); `shows` puts another byte behind an
address where the memory map has a device or nothing (spec/20_memory.md R63). -/
inductive PinEvent where
  | nmiEdge
  | intr (level : Bool) (type : Byte)
  | test (low : Bool)
  | reset (high : Bool)
  | hold (request : Bool)
  | rq (line : GrantLine) (request : Bool)
  | shows (a : Nat) (v : Byte)
deriving DecidableEq, Repr

/-- What the CPU does that the host sees outside memory: I/O transfers (spec/20_memory.md R50), bus cycles of a byte or
a word (R54) that write to a device in the memory map (R63), read instruction bytes from one, executed or not (R57,
spec/70_reset_and_hazards.md R322), or are the dummy read of ESC (spec/45_processor_control.md R260), the interrupt acknowledge pair (spec/60_exceptions.md R281), and the bus signals that `bus_mode` names (R3): HLDA
in minimum mode, a grant pulse on RQ*/GT0* or RQ*/GT1* and the pin LOCK* in maximum mode. -/
inductive HostCall where
  | ioRead8 (port : Word) (v : Byte)
  | ioRead16 (port : Word) (v : Word)
  | ioWrite8 (port : Word) (v : Byte)
  | ioWrite16 (port : Word) (v : Word)
  | memWrite8 (a : Nat) (v : Byte)
  | memWrite16 (a : Nat) (v : Word)
  | dummyRead8 (a : Nat)
  | dummyRead16 (a : Nat)
  | fetch8 (a : Nat)
  | fetch16 (a : Nat)
  | inta (type : Byte)
  | hlda (high : Bool)
  | grant (line : GrantLine)
  | lockPin (active : Bool)
deriving DecidableEq, Repr

/-- The instruction in progress; idle between instructions. `segOverride` and `rep` are the prefixes in force (R96, R98;
`rep` holds the bit z), `ip0` the offset of the first byte, `ipPrefix` of the last prefix byte (R196), `tf0` TF when it
began (R274). `swSeq` records that the instruction itself performed an interrupt sequence (R287), `cut` that a repeated
string instruction was left between two repetitions, `jumped` that the queue was discarded (R57). -/
structure Progress where
  segOverride : Option SReg
  rep : Option Bool
  ip0 : Word
  ipPrefix : Word
  tf0 : Bool
  swSeq : Bool
  cut : Bool
  jumped : Bool
deriving DecidableEq, Repr

/-- No instruction in progress. -/
def Progress.idle : Progress where
  segOverride := none
  rep := none
  ip0 := 0
  ipPrefix := 0
  tf0 := false
  swSeq := false
  cut := false
  jumped := false

/-- A sampling point put off until the bus comes back (spec/60_exceptions.md R279): TF when the instruction began,
whether it performed an interrupt sequence, and, if nothing is taken after all, the offset to go on from and whether
LOCK is in force again. -/
structure Sampling where
  tf0 : Bool
  seq : Bool
  resume : Word
  relock : Bool
deriving DecidableEq, Repr

/-- The machine. `mem` lists the bytes that are not 00H, by rising physical address. `queue` holds, for the bytes after
the fetch point, the prefetched copies that differ from memory (R33, R58), `prefetched` how many of those bytes have been
read, as far as a device may hear it (R57, spec/70_reset_and_hazards.md R322; log 38). `busReleased` names the master that has the
bus (R34, R62), `unsampled` a sampling point that waits for it, `beforeFetch` the masters that asked for it when RESET
ended and still do, who come before the first fetch (R312), `resetSeen` a rise of RESET that has not yet been acted on.
`outside` is what the platform will do at the pins, one entry per look; `masters` what other bus masters will write, one
entry per free bus slot (spec/20_memory.md R62); `ioIn` the bytes the ports will answer; `trace` what the host has seen,
newest first; `drawn` counts the free values. -/
structure State where
  ax : Word
  cx : Word
  dx : Word
  bx : Word
  sp : Word
  bp : Word
  si : Word
  di : Word
  es : Word
  cs : Word
  ss : Word
  ds : Word
  ip : Word
  flags : Flags
  nmiPending : Bool
  inhibitInt : Bool
  run : RunState
  busReleased : Option BusMaster
  unsampled : Option Sampling
  lock : Bool
  beforeFetch : List BusMaster
  queue : List (Option Byte)
  prefetched : Nat
  mem : List Host.Cell
  pins : Pins
  resetSeen : Bool
  outside : List (List PinEvent)
  masters : List (List Host.Cell)
  ioIn : List Byte
  trace : List HostCall
  cur : Progress
  drawn : Nat
  params : Params
deriving DecidableEq, Repr

/-- The one fault. The 8086/8088 has none (spec/93_implementation_defined.md U10). -/
inductive Fault where
  /-- Raised by the step when the decoder finds fewer bytes than the instruction has. Safe: it is never raised, since the
step gives the decoder six bytes and no instruction is longer (R70). -/
  | fetchTruncated
deriving DecidableEq, Repr

/-- The refusals: encodings to which the spec gives no behaviour (treatment `refuse`, U3 and U4). -/
inductive Refusal where
  /-- An instruction without a meaning in this model. Safe. No arm of `exec` uses it. -/
  | notModelled (mnemonic : String)
  /-- Raised by an encoding that Table 1-23 marks "(not used)" (R104, D3, U3). Safe. -/
  | notUsed
  /-- Raised by D4H or D5H followed by a byte other than 0AH (R102, D17). Safe. -/
  | secondByteNot0A
  /-- Raised by `MOV CS, r/m` (R105, D19). Safe. -/
  | movToCs
  /-- Raised by LEA, LES, LDS and the intersegment CALL and JMP through memory when MOD = 11 (R106, D18). Safe. -/
  | memoryOperandMissing
deriving DecidableEq, Repr

/-- What a step or a meaning answers. -/
abbrev Outcome := Host.Outcome State Fault Refusal

/-- All nine flags 0: the flags word reads F002H (R23, R36). -/
def Flags.clear : Flags where
  cF := false
  pF := false
  aF := false
  zF := false
  sF := false
  tF := false
  iF := false
  dF := false
  oF := false

/-- Right after reset (R36, R312): CS = FFFFH, IP = 0000H, IF = 0 by the source; the other flags 0 and DS = ES = SS =
0000H by decision D2; queue empty, no NMI pending, running. The eight general registers have no reset value in the spec
and are 0000H here (log 4), memory reads 00H (log 5) and is RAM throughout (log 35), the parameters are an 8086 in
minimum mode with `sti_delay` = 0 (log 2), and the platform is quiet (log 7). -/
def State.reset : State where
  ax := 0
  cx := 0
  dx := 0
  bx := 0
  sp := 0
  bp := 0
  si := 0
  di := 0
  es := 0
  cs := 0xFFFF
  ss := 0
  ds := 0
  ip := 0
  flags := .clear
  nmiPending := false
  inhibitInt := false
  run := .running
  busReleased := none
  unsampled := none
  lock := false
  beforeFetch := []
  queue := []
  prefetched := 0
  mem := []
  pins :=
    { intrLine := false, intrType := 0, testLow := false, reset := false, hold := false, rq0 := false, rq1 := false }
  resetSeen := false
  outside := []
  masters := []
  ioIn := []
  trace := []
  cur := .idle
  drawn := 0
  params := { variant := .i8086, busMode := .minimum, stiDelay := false, map := [] }

end Sys2Proof.Machine
end

