-- ==== Sys2Proof/Machine/Flags.lean ====
section
/-! DEFINITION. The flags word and every flag computation (spec/10_state.md section 3; spec/41_arithmetic.md R140;
spec/42_logic_shift.md R170, R176 to R183). Each computation takes its operands and the old flags and gives the result
with the new flags. -/
namespace Sys2Proof.Machine

/-! ## The flags word -/

/-- FLAGS read as a word (R23; log 1): OF DF IF TF SF ZF AF PF CF at bits 11, 10, 9, 8, 7, 6, 4, 2, 0; bits 15 to 12 and
1 read 1, bits 5 and 3 read 0. -/
def Flags.toWord (f : Flags) : Word :=
  0xF#4 ++ BitVec.ofBool f.oF ++ BitVec.ofBool f.dF ++ BitVec.ofBool f.iF ++ BitVec.ofBool f.tF ++
    BitVec.ofBool f.sF ++ BitVec.ofBool f.zF ++ 0#1 ++ BitVec.ofBool f.aF ++
    0#1 ++ BitVec.ofBool f.pF ++ 1#1 ++ BitVec.ofBool f.cF

/-- FLAGS written from a word: the nine flag bits; the other seven are ignored (R23). -/
def Flags.ofWord (w : Word) : Flags where
  cF := w.getLsbD 0
  pF := w.getLsbD 2
  aF := w.getLsbD 4
  zF := w.getLsbD 6
  sF := w.getLsbD 7
  tF := w.getLsbD 8
  iF := w.getLsbD 9
  dF := w.getLsbD 10
  oF := w.getLsbD 11

/-- The low byte of the flags word written from a byte, as SAHF does (spec/40_data_transfer.md R128). -/
def Flags.withLowByte (f : Flags) (b : Byte) : Flags :=
  { f with cF := b.getLsbD 0, pF := b.getLsbD 2, aF := b.getLsbD 4, zF := b.getLsbD 6, sF := b.getLsbD 7 }

/-! ## SF, ZF, PF -/

/-- The low-order byte of a result (R19, R20). -/
def lowByte {w : Nat} (v : BitVec w) : Byte := v.setWidth 8

/-- Even parity of a byte (R19). -/
def evenParity (b : Byte) : Bool :=
  !(b.getLsbD 0 ^^ b.getLsbD 1 ^^ b.getLsbD 2 ^^ b.getLsbD 3 ^^
    b.getLsbD 4 ^^ b.getLsbD 5 ^^ b.getLsbD 6 ^^ b.getLsbD 7)

/-- `SetSZP(res)` (spec/00_scope.md R9; R17 to R19). -/
def Flags.setSZP {w : Nat} (f : Flags) (res : BitVec w) : Flags :=
  { f with sF := res.msb, zF := res == 0, pF := evenParity (lowByte res) }

/-! ## Addition and subtraction -/

/-- `ADDW` (R140). -/
def addW {w : Nat} (c : Bool) (a b : BitVec w) (f : Flags) : BitVec w × Flags :=
  let sum := a.toNat + b.toNat + c.toNat
  let res := BitVec.ofNat w sum
  (res, { f.setSZP res with
    cF := decide (2 ^ w ≤ sum)
    aF := decide (16 ≤ a.toNat % 16 + b.toNat % 16 + c.toNat)
    oF := a.msb == b.msb && res.msb != a.msb })

/-- `SUBW` (R140). -/
def subW {w : Nat} (c : Bool) (a b : BitVec w) (f : Flags) : BitVec w × Flags :=
  let diff : Int := a.toNat - b.toNat - c.toNat
  let res := BitVec.ofInt w diff
  (res, { f.setSZP res with
    cF := decide (diff < 0)
    aF := decide (((a.toNat % 16 : Nat) : Int) - (b.toNat % 16 : Nat) - c.toNat < 0)
    oF := a.msb != b.msb && res.msb != a.msb })

/-- ADD (R141). -/
def addOp {w : Nat} (a b : BitVec w) (f : Flags) : BitVec w × Flags := addW false a b f

/-- ADC (R142): the third addend is CF before the instruction. -/
def adcOp {w : Nat} (a b : BitVec w) (f : Flags) : BitVec w × Flags := addW f.cF a b f

/-- SUB and CMP (R146, R150). -/
def subOp {w : Nat} (a b : BitVec w) (f : Flags) : BitVec w × Flags := subW false a b f

/-- SBB (R147): the borrow is CF before the instruction. -/
def sbbOp {w : Nat} (a b : BitVec w) (f : Flags) : BitVec w × Flags := subW f.cF a b f

/-- INC (R143): as an addition of 1, CF kept. -/
def incOp {w : Nat} (a : BitVec w) (f : Flags) : BitVec w × Flags :=
  let p := addW false a 1 f
  (p.1, { p.2 with cF := f.cF })

/-- DEC (R148): as a subtraction of 1, CF kept. -/
def decOp {w : Nat} (a : BitVec w) (f : Flags) : BitVec w × Flags :=
  let p := subW false a 1 f
  (p.1, { p.2 with cF := f.cF })

/-- NEG (R149): 0 − a. -/
def negOp {w : Nat} (a : BitVec w) (f : Flags) : BitVec w × Flags := subW false 0 a f

/-- NOT (R171): every bit inverted, no flag changed. -/
def notOp {w : Nat} (a : BitVec w) (f : Flags) : BitVec w × Flags := (~~~a, f)

/-! ## Logicals -/

/-- `LOGICFLAGS` (R170): OF and CF cleared, SF ZF PF by result, AF undefined. `u` gives the undefined bits. -/
def Flags.logic {w : Nat} (f : Flags) (u : StatusFlag → Bool) (res : BitVec w) : Flags :=
  { f.setSZP res with cF := false, oF := false, aF := u .aF }

/-- AND and TEST (R172, R175). -/
def andOp {w : Nat} (u : StatusFlag → Bool) (a b : BitVec w) (f : Flags) : BitVec w × Flags :=
  (a &&& b, f.logic u (a &&& b))

/-- OR (R173). -/
def orOp {w : Nat} (u : StatusFlag → Bool) (a b : BitVec w) (f : Flags) : BitVec w × Flags :=
  (a ||| b, f.logic u (a ||| b))

/-- XOR (R174). -/
def xorOp {w : Nat} (u : StatusFlag → Bool) (a b : BitVec w) (f : Flags) : BitVec w × Flags :=
  (a ^^^ b, f.logic u (a ^^^ b))

/-! ## Shifts and rotates -/

/-- The seven shifts and rotates (R177 to R183). -/
inductive ShiftOp where
  | rol | ror | rcl | rcr | shl | shr | sar
deriving DecidableEq, Repr

/-- One bit as the lowest bit of a value. -/
def bitLow (w : Nat) (b : Bool) : BitVec w := (BitVec.ofBool b).setWidth w

/-- One bit as the highest bit of a value. -/
def bitHigh (w : Nat) (b : Bool) : BitVec w := bitLow w b <<< (w - 1)

/-- `STEP(v, CF)`: one bit position (R177 to R183). -/
def shiftStep {w : Nat} (op : ShiftOp) (v : BitVec w) (c : Bool) : BitVec w × Bool :=
  match op with
  | .rol => (v <<< 1 ||| bitLow w v.msb, v.msb)
  | .ror => (v >>> 1 ||| bitHigh w (v.getLsbD 0), v.getLsbD 0)
  | .rcl => (v <<< 1 ||| bitLow w c, v.msb)
  | .rcr => (v >>> 1 ||| bitHigh w c, v.getLsbD 0)
  | .shl => (v <<< 1, v.msb)
  | .shr => (v >>> 1, v.getLsbD 0)
  | .sar => (v >>> 1 ||| bitHigh w v.msb, v.getLsbD 0)

/-- `count` repetitions of the step (R176). -/
def shiftRun {w : Nat} (op : ShiftOp) : Nat → BitVec w → Bool → BitVec w × Bool
  | 0, v, c => (v, c)
  | n + 1, v, c => shiftRun op n (shiftStep op v c).1 (shiftStep op v c).2

/-- OF after a count of 1, from the original value, the result and the new CF (R177 to R183). -/
def shiftOverflow {w : Nat} (op : ShiftOp) (v res : BitVec w) (c : Bool) : Bool :=
  match op with
  | .rol | .rcl | .shl => res.msb ^^ c
  | .ror | .rcr => res.msb ^^ res.getMsbD 1
  | .shr => v.msb
  | .sar => false

/-- Whether the operation is a rotate, which leaves SF, ZF, AF and PF alone (R176). -/
def ShiftOp.isRotate : ShiftOp → Bool
  | .rol | .ror | .rcl | .rcr => true
  | .shl | .shr | .sar => false

/-- A shift or rotate by `count` (R176): a count of 0 changes nothing, OF is undefined for a count other than 1, and a
shift leaves AF undefined. -/
def shiftBy {w : Nat} (op : ShiftOp) (u : StatusFlag → Bool) (count : Nat) (v : BitVec w) (f : Flags) :
    BitVec w × Flags :=
  if count = 0 then (v, f)
  else
    let p := shiftRun op count v f.cF
    let g := { f with cF := p.2, oF := if count = 1 then shiftOverflow op v p.1 p.2 else u .oF }
    (p.1, if op.isRotate then g else { g.setSZP p.1 with aF := u .aF })

/-! ## Decimal adjustments -/

/-- Whether the low nibble needs adjusting: it exceeds 9 or AF = 1 (R144, R145, R151, R152). -/
def adjustLow (al : Byte) (f : Flags) : Bool := decide (9 < al.toNat % 16) || f.aF

/-- Whether the high nibble needs adjusting: the old AL exceeds 99H or the old CF = 1 (R145, R152). -/
def adjustHigh (al : Byte) (f : Flags) : Bool := decide (0x99 < al.toNat) || f.cF

/-- The flags of AAA and AAS: AF and CF say whether there was a decimal carry, the rest undefined (R144, R151, U1). -/
def Flags.asciiAdjust (f : Flags) (u : StatusFlag → Bool) (carry : Bool) : Flags :=
  { f with aF := carry, cF := carry, oF := u .oF, sF := u .sF, zF := u .zF, pF := u .pF }

/-- The flags of DAA and DAS: SF ZF PF by the new AL, OF undefined (R145, R152). -/
def Flags.decimalAdjust (f : Flags) (u : StatusFlag → Bool) (al : Byte) (low high : Bool) : Flags :=
  { f.setSZP al with aF := low, cF := high, oF := u .oF }

/-- The flags of AAM and AAD: SF ZF PF by the new AL; OF, AF, CF undefined (R155, R158). -/
def Flags.binaryAdjust (f : Flags) (u : StatusFlag → Bool) (al : Byte) : Flags :=
  { f.setSZP al with oF := u .oF, aF := u .aF, cF := u .cF }

/-! ## Multiplication and division -/

/-- The flags of MUL and IMUL: CF = OF = `wide`, the rest undefined (R153, R154). -/
def Flags.multiply (f : Flags) (u : StatusFlag → Bool) (wide : Bool) : Flags :=
  { f with cF := wide, oF := wide, sF := u .sF, zF := u .zF, aF := u .aF, pF := u .pF }

/-- The flags of DIV and IDIV: all six undefined, also when the divide error is raised (R156, R157, U1). -/
def Flags.divide (f : Flags) (u : StatusFlag → Bool) : Flags :=
  { f with cF := u .cF, pF := u .pF, aF := u .aF, zF := u .zF, sF := u .sF, oF := u .oF }

end Sys2Proof.Machine
end

