-- ==== Sys2Proof/Machine/Ops.lean ====
section
/-! DEFINITION. The named operations on registers, memory, the stack and the ports (spec/10_state.md;
spec/20_memory.md), and the one interrupt sequence with its return (spec/60_exceptions.md R280;
spec/44_control_transfer.md R243). -/
namespace Sys2Proof.Machine

/-! ## Memory -/

/-- The canonical form of memory: addresses strictly rising and below 2^20 (R40), and no entry for a byte that is 00H,
which is what an unlisted address reads as (log 5). -/
abbrev Memory.wf (m : List Host.Cell) : Prop :=
  m.Pairwise (fun c d => c.1 < d.1) ∧ ∀ c ∈ m, c.2 ≠ 0 ∧ c.1 < 0x100000

/-- What an address that memory does not list reads as (`memory_init`; log 5). -/
def Memory.unlisted : Byte := 0

/-- The byte at a physical address. -/
def Memory.read : List Host.Cell → Nat → Byte
  | [], _ => Memory.unlisted
  | c :: m, a => if c.1 = a then c.2 else Memory.read m a

/-- Memory without any entry for an address. -/
def Memory.erase : List Host.Cell → Nat → List Host.Cell
  | [], _ => []
  | c :: m, a => if c.1 = a then Memory.erase m a else c :: Memory.erase m a

/-- An entry put before the first one with a higher address. -/
def Memory.insert : List Host.Cell → Nat → Byte → List Host.Cell
  | [], a, v => [(a, v)]
  | c :: m, a, v => if a < c.1 then (a, v) :: c :: m else c :: Memory.insert m a v

/-- Memory after a byte is written; writing what an unlisted address reads as removes the entry. -/
def Memory.write (m : List Host.Cell) (a : Nat) (v : Byte) : List Host.Cell :=
  if v = Memory.unlisted then Memory.erase m a else Memory.insert (Memory.erase m a) a v

/-- `phys(seg, off)` (R41): the carry out of bit 19 is dropped. -/
def phys (base off : Word) : Nat := (base.toNat * 16 + off.toNat) % 0x100000

/-- `MemRead8` (R46). For every kind of storage `mem` holds what a read finds: what ROM and RAM hold, what a device or
an address with nothing behind it shows (R63, D16). -/
def State.read8 (s : State) (base off : Word) : Byte := Memory.read s.mem (phys base off)

/-- What the CPU does that the host sees, newest first. -/
def State.record (s : State) (c : HostCall) : State := { s with trace := c :: s.trace }

/-- Memory after the CPU writes a byte at a physical address: only RAM keeps it (R63; log 35). -/
def Memory.store (p : Params) (m : List Host.Cell) (a : Nat) (v : Byte) : List Host.Cell :=
  if p.kindAt a = .ram then Memory.write m a v else m

/-- What the host hears of a byte that the CPU writes: it goes to a device (R63; log 35). -/
def Params.heard (p : Params) (a : Nat) (v : Byte) : List HostCall :=
  if p.kindAt a = .device then [.memWrite8 a v] else []

/-- A byte written by the CPU at a physical address, by what the memory map has there: nothing comes of it where there
is ROM or nothing, and it is never a fault (R63, D16). -/
def State.store (s : State) (a : Nat) (v : Byte) : State :=
  { s with
    mem := Memory.store s.params s.mem a v
    trace := s.params.heard a v ++ s.trace }

/-- `MemWrite8` (R46). -/
def State.write8 (s : State) (base off : Word) (v : Byte) : State := s.store (phys base off) v

/-- The low byte of a word. -/
def loByte (v : Word) : Byte := v.extractLsb' 0 8

/-- The high byte of a word. -/
def hiByte (v : Word) : Byte := v.extractLsb' 8 8

/-- `MemRead16` (R47): low byte first; the second byte's offset wraps in the segment. -/
def State.read16 (s : State) (base off : Word) : Word := wordOf (s.read8 base off) (s.read8 base (off + 1))

/-- Whether the word at a physical address is one bus cycle: at an even address on an 8086 (R54). -/
def Params.wideCycle (p : Params) (a : Nat) : Bool := p.variant == .i8086 && a % 2 == 0

/-- What the host hears of a word whose low byte the CPU writes at `a` and whose high byte at `b`, newest first: one
cycle of a word where the bus carries it so, else a cycle for each byte that goes to a device, the low one first (R54,
R63; log 35). -/
def Params.heardWord (p : Params) (a b : Nat) (v : Word) : List HostCall :=
  if p.wideCycle a ∧ p.kindAt a = .device ∧ p.kindAt b = .device then [.memWrite16 a v]
  else p.heard b (hiByte v) ++ p.heard a (loByte v)

/-- `MemWrite16` (R47): low byte first; the second byte's offset wraps in the segment. -/
def State.write16 (s : State) (base off v : Word) : State :=
  { s with
    mem := Memory.store s.params (Memory.store s.params s.mem (phys base off) (loByte v)) (phys base (off + 1)) (hiByte v)
    trace := s.params.heardWord (phys base off) (phys base (off + 1)) v ++ s.trace }

/-- `Read16Phys` (spec/60_exceptions.md R282): no segment register takes part. -/
def State.readPhys16 (s : State) (a : Nat) : Word := wordOf (Memory.read s.mem a) (Memory.read s.mem (a + 1))

/-! ## The general and segment registers -/

/-- `r16[code]` (R13). -/
def State.reg16 (s : State) (r : Reg16) : Word :=
  match r with
  | .ax => s.ax | .cx => s.cx | .dx => s.dx | .bx => s.bx
  | .sp => s.sp | .bp => s.bp | .si => s.si | .di => s.di

/-- `r16[code] <- v` (R13). -/
def State.setReg16 (s : State) (r : Reg16) (v : Word) : State :=
  match r with
  | .ax => { s with ax := v }
  | .cx => { s with cx := v }
  | .dx => { s with dx := v }
  | .bx => { s with bx := v }
  | .sp => { s with sp := v }
  | .bp => { s with bp := v }
  | .si => { s with si := v }
  | .di => { s with di := v }

/-- `r8[code]`: the halves of AX, CX, DX, BX (R14). -/
def State.reg8 (s : State) (r : Reg8) : Byte :=
  match r with
  | .al => loByte s.ax | .cl => loByte s.cx | .dl => loByte s.dx | .bl => loByte s.bx
  | .ah => hiByte s.ax | .ch => hiByte s.cx | .dh => hiByte s.dx | .bh => hiByte s.bx

/-- `r8[code] <- v`; the other half is unchanged (R14). -/
def State.setReg8 (s : State) (r : Reg8) (v : Byte) : State :=
  match r with
  | .al => { s with ax := wordOf v (hiByte s.ax) }
  | .cl => { s with cx := wordOf v (hiByte s.cx) }
  | .dl => { s with dx := wordOf v (hiByte s.dx) }
  | .bl => { s with bx := wordOf v (hiByte s.bx) }
  | .ah => { s with ax := wordOf (loByte s.ax) v }
  | .ch => { s with cx := wordOf (loByte s.cx) v }
  | .dh => { s with dx := wordOf (loByte s.dx) v }
  | .bh => { s with bx := wordOf (loByte s.bx) v }

/-- `sreg[code]` (R26). -/
def State.sreg (s : State) (r : SReg) : Word :=
  match r with
  | .es => s.es | .cs => s.cs | .ss => s.ss | .ds => s.ds

/-- `sreg[code] <- v` (R26). -/
def State.setSreg (s : State) (r : SReg) (v : Word) : State :=
  match r with
  | .es => { s with es := v }
  | .cs => { s with cs := v }
  | .ss => { s with ss := v }
  | .ds => { s with ds := v }

/-! ## Free values -/

/-- The undefined flags of the instruction in hand (`undef_flag`, spec/00_scope.md R8; log 3). -/
def State.undef (s : State) : StatusFlag → Bool := Config.undefFlag s.drawn

/-- The state after a free value has been drawn, so that the next draw is unrelated. -/
def State.drew (s : State) : State := { s with drawn := s.drawn + 1 }

/-! ## The bus -/

/-- A byte that another bus master or the platform puts at an address; `fixed` says which kinds of storage it cannot
change (R63). -/
def Memory.put (p : Params) (fixed : Storage → Bool) (m : List Host.Cell) (c : Host.Cell) : List Host.Cell :=
  if fixed (p.kindAt (c.1 % 0x100000)) then m else Memory.write m (c.1 % 0x100000) c.2

/-- The bytes another bus master writes in one free slot of the bus, in order; ROM keeps what it holds. -/
def Memory.writeAll (p : Params) (m : List Host.Cell) (cells : List Host.Cell) : List Host.Cell :=
  cells.foldl (Memory.put p (· == .rom)) m

/-- A point between two bus cycles, where another master may change memory unless LOCK is in force: `other_master_step`
(spec/00_scope.md R8; spec/20_memory.md R55, R59, R62; D20). That LOCK holds off every master in both bus modes, also
one on a shared system bus, whose arbiter R59 lets ignore it, is a DESIGN CHOICE (log 29). -/
def State.busGap (s : State) : State :=
  if s.lock then s
  else
    match s.masters with
    | [] => s
    | cells :: rest => { s with mem := Memory.writeAll s.params s.mem cells, masters := rest }

/-- What the host sees when the bus lock becomes `on`: a change on the pin LOCK*, which only the maximum mode has (R3;
spec/45_processor_control.md R262). -/
def State.lockCalls (s : State) (on : Bool) : List HostCall :=
  if s.params.busMode = .maximum ∧ s.lock ≠ on then [.lockPin on] else []

/-- The bus lock begins or ends (R59; spec/45_processor_control.md R262). -/
def State.setLock (s : State) (on : Bool) : State := { s with lock := on, trace := s.lockCalls on ++ s.trace }

/-- The master whose request for the bus is the one to serve (R62): HOLD in minimum mode; in maximum mode the line that
has the bus, else RQ*/GT0* before RQ*/GT1*. -/
def State.busRequest (s : State) : Option BusMaster :=
  match s.params.busMode with
  | .minimum => if s.pins.hold then some .hold else none
  | .maximum =>
    if s.pins.rq1 && s.busReleased == some (.line .gt1) then some (.line .gt1)
    else if s.pins.rq0 then some (.line .gt0)
    else if s.pins.rq1 then some (.line .gt1)
    else none

/-- Every master that asks for the bus (R3, R62). -/
def State.busRequests (s : State) : List BusMaster :=
  match s.params.busMode with
  | .minimum => if s.pins.hold then [.hold] else []
  | .maximum => (if s.pins.rq0 then [.line .gt0] else []) ++ (if s.pins.rq1 then [.line .gt1] else [])

/-- RESET is high, or has been since it was last acted on (spec/70_reset_and_hazards.md R310; log 31). -/
def State.resetAsked (s : State) : Bool := s.pins.reset || s.resetSeen

/-- The master to which the bus goes now: none while LOCK is in force (R59) or RESET is asked for. -/
def State.heldBy (s : State) : Option BusMaster := if s.lock || s.resetAsked then none else s.busRequest

/-- What the host sees when a master is given the bus: HLDA in minimum mode, a grant pulse in maximum mode (R3, R62). -/
def BusMaster.grantCall (m : BusMaster) : HostCall :=
  match m with
  | .hold => .hlda true
  | .line l => .grant l

/-- The bus is given to a master, if it has not got it (R62). -/
def State.release (s : State) (m : BusMaster) : State :=
  { s with
    busReleased := some m
    trace := (if s.busReleased = some m then [] else [m.grantCall]) ++ s.trace }

/-- The bus is the CPU's again: HLDA falls in minimum mode, while in maximum mode the other master's pulse has said so
(R3, R62). From here on the CPU may fetch. -/
def State.regain (s : State) : State :=
  { s with
    busReleased := none
    beforeFetch := []
    trace := (if s.busReleased = some .hold then [.hlda false] else []) ++ s.trace }

/-- A master takes its request back: if it has the bus, it gives it up, whatever it asks for afterwards (R62), and if it
comes before the first fetch after RESET, it does so no longer (spec/70_reset_and_hazards.md R312). -/
def State.giveBack (s : State) (m : BusMaster) : State :=
  { s with
    busReleased := if s.busReleased = some m then none else s.busReleased
    beforeFetch := s.beforeFetch.filter (· != m)
    trace := (if s.busReleased = some m ∧ m = .hold then [.hlda false] else []) ++ s.trace }

/-! ## The stack -/

/-- `push16` (R52). -/
def State.push16 (s : State) (v : Word) : State :=
  { s with sp := s.sp - 2 }.write16 s.ss (s.sp - 2) v

/-- The word that `pop16` returns (R53). -/
def State.top16 (s : State) : Word := s.read16 s.ss s.sp

/-- The state after `pop16` (R53). -/
def State.drop16 (s : State) : State := { s with sp := s.sp + 2 }

/-! ## Control transfer -/

/-- `pc <- target` within the code segment: IP is written and the queue discarded (spec/00_scope.md R9; R57). -/
def State.jumpNear (s : State) (off : Word) : State :=
  { s with ip := off, queue := [], prefetched := 0, cur := { s.cur with jumped := true } }

/-- `pc <- target` to another segment: CS and IP are written and the queue discarded (R57). -/
def State.jumpFar (s : State) (base off : Word) : State := { s with cs := base }.jumpNear off

/-! ## Interrupts -/

/-- IF and TF cleared (spec/60_exceptions.md R280). -/
def State.maskInterrupts (s : State) : State := { s with flags := { s.flags with iF := false, tF := false } }

/-- `Seq(n, ret)` (R280), the one way into every interrupt routine: the two vector words are read, FLAGS, CS and `ret`
pushed, IF and TF cleared after FLAGS is pushed, and CS:IP loaded, with the bus free before each access (R62, D20). The
CPU runs again if it was halted or waiting (R292, R293). -/
def State.takeInterrupt (s : State) (n : Byte) (ret : Word) : State :=
  let s0 := s.busGap
  let newIp := s0.readPhys16 (4 * n.toNat)
  let s1 := s0.busGap
  let newCs := s1.readPhys16 (4 * n.toNat + 2)
  let s2 := (s1.busGap.push16 s1.flags.toWord).maskInterrupts
  let s3 := s2.busGap.push16 s2.cs
  let s4 := s3.busGap.push16 ret
  { s4.jumpFar newCs newIp with run := .running }

/-- `raise Interrupt(n)` by the instruction itself, as its last action, with the offset of the next instruction saved
(R285, R289, R306). -/
def State.raiseInterrupt (s : State) (n : Byte) : State :=
  let t := s.takeInterrupt n s.ip
  { t with cur := { t.cur with swSeq := true } }

/-- The return (spec/44_control_transfer.md R243): IP, CS and FLAGS are popped in that order. -/
def State.returnFromInterrupt (s : State) : State :=
  let newIp := s.top16
  let s1 := s.drop16.busGap
  let newCs := s1.top16
  let s2 := s1.drop16.busGap
  let s3 := { s2.drop16 with flags := .ofWord s2.top16 }
  s3.jumpFar newCs newIp

/-! ## The I/O space -/

/-- Whether a word transfer at a port is one 16-bit transfer: an even port on an 8086 (R50). -/
def State.wideTransfer (s : State) (port : Word) : Bool := s.params.variant == .i8086 && !port.getLsbD 0

/-- The byte a port answers: the next one the platform has queued, else a free value (`io_read`; log 8). -/
def State.portAnswer (s : State) (port : Word) : Byte := s.ioIn.headD (Config.portByte s.drawn port)

/-- The state after a port has answered. -/
def State.portAnswered (s : State) : State :=
  match s.ioIn with
  | [] => s.drew
  | _ :: rest => { s with ioIn := rest }

/-- `IoRead(port, 1)` (R50): the byte. -/
def State.ioByte (s : State) (port : Word) : Byte := s.portAnswer port

/-- The state after `IoRead(port, 1)`. -/
def State.ioByteRead (s : State) (port : Word) : State := s.portAnswered.record (.ioRead8 port (s.ioByte port))

/-- `IoRead(port, 2)` (R50): the byte of the next port above the byte of the port. -/
def State.ioWord (s : State) (port : Word) : Word :=
  wordOf (s.portAnswer port) (s.portAnswered.portAnswer (port + 1))

/-- The state after `IoRead(port, 2)`: one 16-bit transfer, or two byte transfers with the low port first. -/
def State.ioWordRead (s : State) (port : Word) : State :=
  if s.wideTransfer port then s.portAnswered.portAnswered.record (.ioRead16 port (s.ioWord port))
  else (s.ioByteRead port).ioByteRead (port + 1)

/-- `IoWrite(port, 1, v)` (R50). -/
def State.ioByteWrite (s : State) (port : Word) (v : Byte) : State := s.record (.ioWrite8 port v)

/-- `IoWrite(port, 2, v)` (R50), the mirror image of `ioWordRead`. -/
def State.ioWordWrite (s : State) (port v : Word) : State :=
  if s.wideTransfer port then s.record (.ioWrite16 port v)
  else (s.ioByteWrite port (loByte v)).ioByteWrite (port + 1) (hiByte v)

end Sys2Proof.Machine
end

