-- ==== Sys2Proof/Machine/Operands.lean ====
section
/-! DEFINITION. The operand forms: effective address and segment of a memory operand (spec/30_encoding.md R83, R84), and
the skeletons that the two-operand and one-operand instructions share (spec/41_arithmetic.md R161). -/
namespace Sys2Proof.Machine

/-! ## Memory operands -/

/-- The sum of base and index (R83). -/
def State.baseIndex (s : State) (b : EaBase) : Word :=
  match b with
  | .bxSi => s.bx + s.si
  | .bxDi => s.bx + s.di
  | .bpSi => s.bp + s.si
  | .bpDi => s.bp + s.di
  | .si => s.si
  | .di => s.di
  | .bp => s.bp
  | .bx => s.bx

/-- The displacement that is added: a byte is sign-extended (R77). -/
def dispValue (d : Disp) : Word :=
  match d with
  | .absent => 0
  | .d8 b => b.signExtend 16
  | .d16 w => w

/-- The effective address (R83), modulo 65536. -/
def State.ea (s : State) (m : MemOp) : Word :=
  match m with
  | .direct off => off
  | .indexed b d => s.baseIndex b + dispValue d

/-- The default segment of a memory operand: SS when BP takes part, else DS (R84, R44). -/
def defaultSeg (m : MemOp) : SReg :=
  match m with
  | .indexed .bpSi _ | .indexed .bpDi _ | .indexed .bp _ => .ss
  | _ => .ds

/-- The segment register in force where an override may replace the default (R44, R96). -/
def State.segOr (s : State) (dflt : SReg) : Word := s.sreg (s.cur.segOverride.getD dflt)

/-- The segment base of a memory operand (R84). -/
def State.segOf (s : State) (m : MemOp) : Word := s.segOr (defaultSeg m)

/-! ## Reading and writing r/m operands -/

/-- `read_rm(8)` (R84). -/
def State.readEb (s : State) (e : Eb) : Byte :=
  match e with
  | .reg r => s.reg8 r
  | .mem m => s.read8 (s.segOf m) (s.ea m)

/-- `read_rm(16)` (R84). -/
def State.readEv (s : State) (e : Ev) : Word :=
  match e with
  | .reg r => s.reg16 r
  | .mem m => s.read16 (s.segOf m) (s.ea m)

/-- `write_rm(8, v)` (R84). -/
def State.writeEb (s : State) (e : Eb) (v : Byte) : State :=
  match e with
  | .reg r => s.setReg8 r v
  | .mem m => s.write8 (s.segOf m) (s.ea m) v

/-- `write_rm(16, v)` (R84). -/
def State.writeEv (s : State) (e : Ev) (v : Word) : State :=
  match e with
  | .reg r => s.setReg16 r v
  | .mem m => s.write16 (s.segOf m) (s.ea m) v

/-- The bus is free between the read and the write of a memory operand; a register operand uses no bus (R84, R55). -/
def State.gapEb (s : State) (e : Eb) : State :=
  match e with
  | .reg _ => s
  | .mem _ => s.busGap

/-- As `gapEb`, for a 16-bit operand. -/
def State.gapEv (s : State) (e : Ev) : State :=
  match e with
  | .reg _ => s
  | .mem _ => s.busGap

/-- The pointer in memory at `seg:EA` (spec/20_memory.md R48): the offset word. -/
def State.pointerOff (s : State) (m : MemOp) : Word := s.read16 (s.segOf m) (s.ea m)

/-- The pointer's segment base word, at EA + 2 (R48). -/
def State.pointerBase (s : State) (m : MemOp) : Word := s.read16 (s.segOf m) (s.ea m + 2)

/-! ## Skeletons -/

/-- New flags, everything else kept. -/
def State.setFlags (s : State) (f : Flags) : State := { s with flags := f }

/-- A read-modify-write of an 8-bit operand with its flags (R161, R84). -/
def State.rmwEb (s : State) (e : Eb) (op : Byte → Flags → Byte × Flags) : State :=
  let p := op (s.readEb e) s.flags
  ((s.gapEb e).setFlags p.2).writeEb e p.1

/-- A read-modify-write of a 16-bit operand with its flags (R161, R84). -/
def State.rmwEv (s : State) (e : Ev) (op : Word → Flags → Word × Flags) : State :=
  let p := op (s.readEv e) s.flags
  ((s.gapEv e).setFlags p.2).writeEv e p.1

/-- `Eb, b`: destination r/m (R161 forms (a) with d = 0 and (c)). -/
def State.aluEb (s : State) (op : Byte → Byte → Flags → Byte × Flags) (dst : Eb) (b : Byte) : State :=
  s.rmwEb dst fun a f => op a b f

/-- `Ev, b`: destination r/m. -/
def State.aluEv (s : State) (op : Word → Word → Flags → Word × Flags) (dst : Ev) (b : Word) : State :=
  s.rmwEv dst fun a f => op a b f

/-- `r8, b`: destination register (R161 forms (a) with d = 1 and (b)). -/
def State.aluR8 (s : State) (op : Byte → Byte → Flags → Byte × Flags) (dst : Reg8) (b : Byte) : State :=
  s.aluEb op (.reg dst) b

/-- `r16, b`: destination register. -/
def State.aluR16 (s : State) (op : Word → Word → Flags → Word × Flags) (dst : Reg16) (b : Word) : State :=
  s.aluEv op (.reg dst) b

/-- CMP and TEST: only the flags are written (R150, R175). -/
def State.flags8 (s : State) (op : Byte → Byte → Flags → Byte × Flags) (a b : Byte) : State :=
  s.setFlags (op a b s.flags).2

/-- CMP and TEST on words. -/
def State.flags16 (s : State) (op : Word → Word → Flags → Word × Flags) (a b : Word) : State :=
  s.setFlags (op a b s.flags).2

/-- A shift or rotate of an 8-bit operand; a count of 0 touches nothing (spec/42_logic_shift.md R176). -/
def State.shiftEb (s : State) (op : ShiftOp) (count : Nat) (dst : Eb) : State :=
  if count = 0 then s else s.drew.rmwEb dst fun v f => shiftBy op s.undef count v f

/-- A shift or rotate of a 16-bit operand. -/
def State.shiftEv (s : State) (op : ShiftOp) (count : Nat) (dst : Ev) : State :=
  if count = 0 then s else s.drew.rmwEv dst fun v f => shiftBy op s.undef count v f

end Sys2Proof.Machine
end

