-- ==== Sys2Proof/Machine/Arithmetic.lean ====
section
/-! DEFINITION. The arithmetic instructions (spec/41_arithmetic.md R140 to R161). -/
namespace Sys2Proof.Machine

/-- AAA and AAS (R144, R151): `op` is the addition or the subtraction of the adjustment. -/
def State.asciiAdjust (s : State) (op : Byte → Byte → Byte) : State :=
  let al := s.reg8 .al
  let carry := adjustLow al s.flags
  let t := s.drew.setFlags (s.flags.asciiAdjust s.undef carry)
  if carry then (t.setReg8 .ah (op (s.reg8 .ah) 1)).setReg8 .al (op al 6 &&& 0x0F)
  else t.setReg8 .al (al &&& 0x0F)

/-- DAA and DAS (R145, R152). -/
def State.decimalAdjust (s : State) (op : Byte → Byte → Byte) : State :=
  let al := s.reg8 .al
  let low := adjustLow al s.flags
  let high := adjustHigh al s.flags
  let al1 := if low then op al 6 else al
  let al2 := if high then op al1 0x60 else al1
  (s.drew.setFlags (s.flags.decimalAdjust s.undef al2 low high)).setReg8 .al al2

/-- AAM (R155). -/
def State.splitDigits (s : State) : State :=
  let al := s.reg8 .al
  { s.drew with ax := wordOf (al % 10) (al / 10), flags := s.flags.binaryAdjust s.undef (al % 10) }

/-- AAD (R158). -/
def State.joinDigits (s : State) : State :=
  let al := s.reg8 .ah * 10 + s.reg8 .al
  { s.drew with ax := wordOf al 0, flags := s.flags.binaryAdjust s.undef al }

/-- MUL of bytes (R153). -/
def State.mul8 (s : State) (b : Byte) : State :=
  let p := BitVec.ofNat 16 ((s.reg8 .al).toNat * b.toNat)
  { s.drew with ax := p, flags := s.flags.multiply s.undef (hiByte p != 0) }

/-- MUL of words (R153). -/
def State.mul16 (s : State) (b : Word) : State :=
  let p := BitVec.ofNat 32 (s.ax.toNat * b.toNat)
  { s.drew with
    ax := p.extractLsb' 0 16
    dx := p.extractLsb' 16 16
    flags := s.flags.multiply s.undef (p.extractLsb' 16 16 != 0) }

/-- IMUL of bytes (R154). -/
def State.imul8 (s : State) (b : Byte) : State :=
  let p := BitVec.ofInt 16 ((s.reg8 .al).toInt * b.toInt)
  { s.drew with ax := p, flags := s.flags.multiply s.undef (p != (loByte p).signExtend 16) }

/-- IMUL of words (R154). -/
def State.imul16 (s : State) (b : Word) : State :=
  let p := BitVec.ofInt 32 (s.ax.toInt * b.toInt)
  { s.drew with
    ax := p.extractLsb' 0 16
    dx := p.extractLsb' 16 16
    flags := s.flags.multiply s.undef (p != (p.extractLsb' 0 16).signExtend 32) }

/-- The six status flags made undefined, before the quotient is judged (R156, R157, R273, U1). -/
def State.divideFlags (s : State) : State := s.drew.setFlags (s.flags.divide s.undef)

/-- DIV of AX by a byte (R156); the divide error leaves AX as it was (D6). -/
def State.div8 (s : State) (b : Byte) : State :=
  let n := s.ax.toNat
  let d := b.toNat
  if d = 0 ∨ 0xFF < n / d then s.divideFlags.raiseInterrupt 0
  else { s.divideFlags with ax := wordOf (BitVec.ofNat 8 (n / d)) (BitVec.ofNat 8 (n % d)) }

/-- DIV of DX:AX by a word (R156). -/
def State.div16 (s : State) (b : Word) : State :=
  let n := s.dx.toNat * 65536 + s.ax.toNat
  let d := b.toNat
  if d = 0 ∨ 0xFFFF < n / d then s.divideFlags.raiseInterrupt 0
  else { s.divideFlags with ax := BitVec.ofNat 16 (n / d), dx := BitVec.ofNat 16 (n % d) }

/-- IDIV of AX by a byte (R157): truncated toward zero, the quotient range symmetric (D26; log 11). -/
def State.idiv8 (s : State) (b : Byte) : State :=
  let n := s.ax.toInt
  let d := b.toInt
  if d = 0 ∨ 127 < n.tdiv d ∨ n.tdiv d < -127 then s.divideFlags.raiseInterrupt 0
  else { s.divideFlags with ax := wordOf (BitVec.ofInt 8 (n.tdiv d)) (BitVec.ofInt 8 (n.tmod d)) }

/-- IDIV of DX:AX by a word (R157). -/
def State.idiv16 (s : State) (b : Word) : State :=
  let n := (s.dx ++ s.ax).toInt
  let d := b.toInt
  if d = 0 ∨ 32767 < n.tdiv d ∨ n.tdiv d < -32767 then s.divideFlags.raiseInterrupt 0
  else { s.divideFlags with ax := BitVec.ofInt 16 (n.tdiv d), dx := BitVec.ofInt 16 (n.tmod d) }

/-- 00H `ADD Eb, Gb` (R141). -/
def execAddEbGb (dst : Eb) (src : Reg8) (s : State) : Outcome := .next (s.aluEb addOp dst (s.reg8 src))

/-- 01H `ADD Ev, Gv` (R141). -/
def execAddEvGv (dst : Ev) (src : Reg16) (s : State) : Outcome := .next (s.aluEv addOp dst (s.reg16 src))

/-- 02H `ADD Gb, Eb` (R141). -/
def execAddGbEb (dst : Reg8) (src : Eb) (s : State) : Outcome := .next (s.aluR8 addOp dst (s.readEb src))

/-- 03H `ADD Gv, Ev` (R141). -/
def execAddGvEv (dst : Reg16) (src : Ev) (s : State) : Outcome := .next (s.aluR16 addOp dst (s.readEv src))

/-- 04H `ADD AL, Ib` (R141). -/
def execAddAlIb (imm : Byte) (s : State) : Outcome := .next (s.aluR8 addOp .al imm)

/-- 05H `ADD AX, Iv` (R141). -/
def execAddAxIv (imm : Word) (s : State) : Outcome := .next (s.aluR16 addOp .ax imm)

/-- 10H `ADC Eb, Gb` (R142). -/
def execAdcEbGb (dst : Eb) (src : Reg8) (s : State) : Outcome := .next (s.aluEb adcOp dst (s.reg8 src))

/-- 11H `ADC Ev, Gv` (R142). -/
def execAdcEvGv (dst : Ev) (src : Reg16) (s : State) : Outcome := .next (s.aluEv adcOp dst (s.reg16 src))

/-- 12H `ADC Gb, Eb` (R142). -/
def execAdcGbEb (dst : Reg8) (src : Eb) (s : State) : Outcome := .next (s.aluR8 adcOp dst (s.readEb src))

/-- 13H `ADC Gv, Ev` (R142). -/
def execAdcGvEv (dst : Reg16) (src : Ev) (s : State) : Outcome := .next (s.aluR16 adcOp dst (s.readEv src))

/-- 14H `ADC AL, Ib` (R142). -/
def execAdcAlIb (imm : Byte) (s : State) : Outcome := .next (s.aluR8 adcOp .al imm)

/-- 15H `ADC AX, Iv` (R142). -/
def execAdcAxIv (imm : Word) (s : State) : Outcome := .next (s.aluR16 adcOp .ax imm)

/-- 18H `SBB Eb, Gb` (R147). -/
def execSbbEbGb (dst : Eb) (src : Reg8) (s : State) : Outcome := .next (s.aluEb sbbOp dst (s.reg8 src))

/-- 19H `SBB Ev, Gv` (R147). -/
def execSbbEvGv (dst : Ev) (src : Reg16) (s : State) : Outcome := .next (s.aluEv sbbOp dst (s.reg16 src))

/-- 1AH `SBB Gb, Eb` (R147). -/
def execSbbGbEb (dst : Reg8) (src : Eb) (s : State) : Outcome := .next (s.aluR8 sbbOp dst (s.readEb src))

/-- 1BH `SBB Gv, Ev` (R147). -/
def execSbbGvEv (dst : Reg16) (src : Ev) (s : State) : Outcome := .next (s.aluR16 sbbOp dst (s.readEv src))

/-- 1CH `SBB AL, Ib` (R147). -/
def execSbbAlIb (imm : Byte) (s : State) : Outcome := .next (s.aluR8 sbbOp .al imm)

/-- 1DH `SBB AX, Iv` (R147). -/
def execSbbAxIv (imm : Word) (s : State) : Outcome := .next (s.aluR16 sbbOp .ax imm)

/-- 28H `SUB Eb, Gb` (R146). -/
def execSubEbGb (dst : Eb) (src : Reg8) (s : State) : Outcome := .next (s.aluEb subOp dst (s.reg8 src))

/-- 29H `SUB Ev, Gv` (R146). -/
def execSubEvGv (dst : Ev) (src : Reg16) (s : State) : Outcome := .next (s.aluEv subOp dst (s.reg16 src))

/-- 2AH `SUB Gb, Eb` (R146). -/
def execSubGbEb (dst : Reg8) (src : Eb) (s : State) : Outcome := .next (s.aluR8 subOp dst (s.readEb src))

/-- 2BH `SUB Gv, Ev` (R146). -/
def execSubGvEv (dst : Reg16) (src : Ev) (s : State) : Outcome := .next (s.aluR16 subOp dst (s.readEv src))

/-- 2CH `SUB AL, Ib` (R146). -/
def execSubAlIb (imm : Byte) (s : State) : Outcome := .next (s.aluR8 subOp .al imm)

/-- 2DH `SUB AX, Iv` (R146). -/
def execSubAxIv (imm : Word) (s : State) : Outcome := .next (s.aluR16 subOp .ax imm)

/-- 38H `CMP Eb, Gb` (R150). -/
def execCmpEbGb (dst : Eb) (src : Reg8) (s : State) : Outcome := .next (s.flags8 subOp (s.readEb dst) (s.reg8 src))

/-- 39H `CMP Ev, Gv` (R150). -/
def execCmpEvGv (dst : Ev) (src : Reg16) (s : State) : Outcome := .next (s.flags16 subOp (s.readEv dst) (s.reg16 src))

/-- 3AH `CMP Gb, Eb` (R150). -/
def execCmpGbEb (dst : Reg8) (src : Eb) (s : State) : Outcome := .next (s.flags8 subOp (s.reg8 dst) (s.readEb src))

/-- 3BH `CMP Gv, Ev` (R150). -/
def execCmpGvEv (dst : Reg16) (src : Ev) (s : State) : Outcome := .next (s.flags16 subOp (s.reg16 dst) (s.readEv src))

/-- 3CH `CMP AL, Ib` (R150). -/
def execCmpAlIb (imm : Byte) (s : State) : Outcome := .next (s.flags8 subOp (s.reg8 .al) imm)

/-- 3DH `CMP AX, Iv` (R150). -/
def execCmpAxIv (imm : Word) (s : State) : Outcome := .next (s.flags16 subOp s.ax imm)

/-- 40H–47H `INC r16` (R143). -/
def execIncR16 (r : Reg16) (s : State) : Outcome := .next (s.rmwEv (.reg r) incOp)

/-- 48H–4FH `DEC r16` (R148). -/
def execDecR16 (r : Reg16) (s : State) : Outcome := .next (s.rmwEv (.reg r) decOp)

/-- 80H /0 `ADD Eb, Ib` (R141). -/
def execAddEbIb (dst : Eb) (imm : Byte) (s : State) : Outcome := .next (s.aluEb addOp dst imm)

/-- 80H /2 `ADC Eb, Ib` (R142). -/
def execAdcEbIb (dst : Eb) (imm : Byte) (s : State) : Outcome := .next (s.aluEb adcOp dst imm)

/-- 80H /3 `SBB Eb, Ib` (R147). -/
def execSbbEbIb (dst : Eb) (imm : Byte) (s : State) : Outcome := .next (s.aluEb sbbOp dst imm)

/-- 80H /5 `SUB Eb, Ib` (R146). -/
def execSubEbIb (dst : Eb) (imm : Byte) (s : State) : Outcome := .next (s.aluEb subOp dst imm)

/-- 80H /7 `CMP Eb, Ib` (R150). -/
def execCmpEbIb (dst : Eb) (imm : Byte) (s : State) : Outcome := .next (s.flags8 subOp (s.readEb dst) imm)

/-- 81H /0 `ADD Ev, Iv` (R141). -/
def execAddEvIv (dst : Ev) (imm : Word) (s : State) : Outcome := .next (s.aluEv addOp dst imm)

/-- 81H /2 `ADC Ev, Iv` (R142). -/
def execAdcEvIv (dst : Ev) (imm : Word) (s : State) : Outcome := .next (s.aluEv adcOp dst imm)

/-- 81H /3 `SBB Ev, Iv` (R147). -/
def execSbbEvIv (dst : Ev) (imm : Word) (s : State) : Outcome := .next (s.aluEv sbbOp dst imm)

/-- 81H /5 `SUB Ev, Iv` (R146). -/
def execSubEvIv (dst : Ev) (imm : Word) (s : State) : Outcome := .next (s.aluEv subOp dst imm)

/-- 81H /7 `CMP Ev, Iv` (R150). -/
def execCmpEvIv (dst : Ev) (imm : Word) (s : State) : Outcome := .next (s.flags16 subOp (s.readEv dst) imm)

/-- 82H /0 `ADD Eb, Ib`, as 80H /0 (R141, R103). -/
def execAddEbIb82 (dst : Eb) (imm : Byte) (s : State) : Outcome := .next (s.aluEb addOp dst imm)

/-- 82H /2 `ADC Eb, Ib`, as 80H /2 (R142, R103). -/
def execAdcEbIb82 (dst : Eb) (imm : Byte) (s : State) : Outcome := .next (s.aluEb adcOp dst imm)

/-- 82H /3 `SBB Eb, Ib`, as 80H /3 (R147, R103). -/
def execSbbEbIb82 (dst : Eb) (imm : Byte) (s : State) : Outcome := .next (s.aluEb sbbOp dst imm)

/-- 82H /5 `SUB Eb, Ib`, as 80H /5 (R146, R103). -/
def execSubEbIb82 (dst : Eb) (imm : Byte) (s : State) : Outcome := .next (s.aluEb subOp dst imm)

/-- 82H /7 `CMP Eb, Ib`, as 80H /7 (R150, R103). -/
def execCmpEbIb82 (dst : Eb) (imm : Byte) (s : State) : Outcome := .next (s.flags8 subOp (s.readEb dst) imm)

/-- 83H /0 `ADD Ev, Is`, the byte sign-extended (R141). -/
def execAddEvIs (dst : Ev) (imm : Byte) (s : State) : Outcome := .next (s.aluEv addOp dst (imm.signExtend 16))

/-- 83H /2 `ADC Ev, Is`, the byte sign-extended (R142). -/
def execAdcEvIs (dst : Ev) (imm : Byte) (s : State) : Outcome := .next (s.aluEv adcOp dst (imm.signExtend 16))

/-- 83H /3 `SBB Ev, Is`, the byte sign-extended (R147). -/
def execSbbEvIs (dst : Ev) (imm : Byte) (s : State) : Outcome := .next (s.aluEv sbbOp dst (imm.signExtend 16))

/-- 83H /5 `SUB Ev, Is`, the byte sign-extended (R146). -/
def execSubEvIs (dst : Ev) (imm : Byte) (s : State) : Outcome := .next (s.aluEv subOp dst (imm.signExtend 16))

/-- 83H /7 `CMP Ev, Is`, the byte sign-extended (R150). -/
def execCmpEvIs (dst : Ev) (imm : Byte) (s : State) : Outcome :=
  .next (s.flags16 subOp (s.readEv dst) (imm.signExtend 16))

/-- F6H /3 `NEG Eb` (R149). -/
def execNegEb (dst : Eb) (s : State) : Outcome := .next (s.rmwEb dst negOp)

/-- F6H /4 `MUL Eb` (R153). -/
def execMulEb (src : Eb) (s : State) : Outcome := .next (s.mul8 (s.readEb src))

/-- F6H /5 `IMUL Eb` (R154). -/
def execImulEb (src : Eb) (s : State) : Outcome := .next (s.imul8 (s.readEb src))

/-- F6H /6 `DIV Eb` (R156). -/
def execDivEb (src : Eb) (s : State) : Outcome := .next (s.div8 (s.readEb src))

/-- F6H /7 `IDIV Eb` (R157). -/
def execIdivEb (src : Eb) (s : State) : Outcome := .next (s.idiv8 (s.readEb src))

/-- F7H /3 `NEG Ev` (R149). -/
def execNegEv (dst : Ev) (s : State) : Outcome := .next (s.rmwEv dst negOp)

/-- F7H /4 `MUL Ev` (R153). -/
def execMulEv (src : Ev) (s : State) : Outcome := .next (s.mul16 (s.readEv src))

/-- F7H /5 `IMUL Ev` (R154). -/
def execImulEv (src : Ev) (s : State) : Outcome := .next (s.imul16 (s.readEv src))

/-- F7H /6 `DIV Ev` (R156). -/
def execDivEv (src : Ev) (s : State) : Outcome := .next (s.div16 (s.readEv src))

/-- F7H /7 `IDIV Ev` (R157). -/
def execIdivEv (src : Ev) (s : State) : Outcome := .next (s.idiv16 (s.readEv src))

/-- FEH /0 `INC Eb` (R143). -/
def execIncEb (dst : Eb) (s : State) : Outcome := .next (s.rmwEb dst incOp)

/-- FEH /1 `DEC Eb` (R148). -/
def execDecEb (dst : Eb) (s : State) : Outcome := .next (s.rmwEb dst decOp)

/-- FFH /0 `INC Ev` (R143). -/
def execIncEv (dst : Ev) (s : State) : Outcome := .next (s.rmwEv dst incOp)

/-- FFH /1 `DEC Ev` (R148). -/
def execDecEv (dst : Ev) (s : State) : Outcome := .next (s.rmwEv dst decOp)

/-- 27H `DAA` (R145). -/
def execDaa (s : State) : Outcome := .next (s.decimalAdjust (· + ·))

/-- 2FH `DAS` (R152). -/
def execDas (s : State) : Outcome := .next (s.decimalAdjust (· - ·))

/-- 37H `AAA` (R144). -/
def execAaa (s : State) : Outcome := .next (s.asciiAdjust (· + ·))

/-- 3FH `AAS` (R151). -/
def execAas (s : State) : Outcome := .next (s.asciiAdjust (· - ·))

/-- 98H `CBW` (R159). -/
def execCbw (s : State) : Outcome := .next { s with ax := (s.reg8 .al).signExtend 16 }

/-- 99H `CWD` (R160). -/
def execCwd (s : State) : Outcome := .next { s with dx := if s.ax.msb then 0xFFFF else 0 }

/-- D4H 0AH `AAM` (R155). -/
def execAam (s : State) : Outcome := .next (s.splitDigits)

/-- D5H 0AH `AAD` (R158). -/
def execAad (s : State) : Outcome := .next (s.joinDigits)

end Sys2Proof.Machine
end

