-- ==== Sys2Proof/Machine/Control.lean ====
section
/-! DEFINITION. The processor control instructions (spec/45_processor_control.md R250 to R263). -/
namespace Sys2Proof.Machine

/-- WAIT (R259): with TEST* asserted it ends like a NOP. Otherwise IP goes back to the first byte of the instruction, so
that an interrupt returns to it, the machine waits, and no trap is due (D14). -/
def State.waitForTest (s : State) : State :=
  if s.pins.testLow then s
  else { s with run := .waiting s.ip, ip := s.cur.ip0, cur := { s.cur with tf0 := false } }

/-- What the host hears of a word that is read and discarded, newest first: one cycle of a word where the bus carries
it so, else two of a byte, the low one first (R260; spec/20_memory.md R54). -/
def Params.dummyCycles (p : Params) (a b : Nat) : List HostCall :=
  if p.wideCycle a then [.dummyRead16 a] else [.dummyRead8 b, .dummyRead8 a]

/-- ESC (R260): a memory operand is read as a word, seen by the host and discarded. -/
def State.dummyRead (s : State) (e : Ev) : State :=
  match e with
  | .reg _ => s
  | .mem m =>
    { s with trace := s.params.dummyCycles (phys (s.segOf m) (s.ea m)) (phys (s.segOf m) (s.ea m + 1)) ++ s.trace }

/-- D8H–DFH `ESC`; `x : y` is the external opcode (R101) (R260). -/
def execEsc (_x : BitVec 3) (_y : BitVec 3) (rm : Ev) (s : State) : Outcome := .next (s.dummyRead rm)

/-- 90H `NOP` (R263). -/
def execNop (s : State) : Outcome := .next s

/-- 9BH `WAIT` (R259). -/
def execWait (s : State) : Outcome := .next (s.waitForTest)

/-- F4H `HLT` (R258). -/
def execHlt (s : State) : Outcome := .next { s with run := .halted }

/-- F5H `CMC` (R251). -/
def execCmc (s : State) : Outcome := .next (s.setFlags { s.flags with cF := !s.flags.cF })

/-- F8H `CLC` (R250). -/
def execClc (s : State) : Outcome := .next (s.setFlags { s.flags with cF := false })

/-- F9H `STC` (R252). -/
def execStc (s : State) : Outcome := .next (s.setFlags { s.flags with cF := true })

/-- FAH `CLI` (R255). -/
def execCli (s : State) : Outcome := .next (s.setFlags { s.flags with iF := false })

/-- FBH `STI` (R256). -/
def execSti (s : State) : Outcome :=
  .next { s.setFlags { s.flags with iF := true } with
    inhibitInt := s.inhibitInt || (s.params.stiDelay && !s.flags.iF) }

/-- FCH `CLD` (R253). -/
def execCld (s : State) : Outcome := .next (s.setFlags { s.flags with dF := false })

/-- FDH `STD` (R254). -/
def execStd (s : State) : Outcome := .next (s.setFlags { s.flags with dF := true })

end Sys2Proof.Machine
end

