-- ==== Sys2Proof/Machine/DataTransfer.lean ====
section
/-! DEFINITION. The data transfer instructions (spec/40_data_transfer.md R110 to R130). -/
namespace Sys2Proof.Machine

/-- A segment register loaded by MOV or POP: no interrupt is sampled at the end of this instruction (R115, R118). -/
def State.loadSeg (s : State) (r : SReg) (v : Word) : State := { s.setSreg r v with inhibitInt := true }

/-- PUSH of a general register; PUSH SP stores the decremented SP (R117, D9; log 10). -/
def State.pushReg (s : State) (r : Reg16) : State := s.push16 (if r = .sp then s.sp - 2 else s.reg16 r)

/-- PUSH of an r/m operand: a memory operand is read before the push (R117). -/
def State.pushOperand (s : State) (e : Ev) : State :=
  match e with
  | .reg r => s.pushReg r
  | .mem m => s.busGap.push16 (s.read16 (s.segOf m) (s.ea m))

/-- XCHG of a byte: r/m is read, then written, then the register (R119). -/
def State.exchange8 (s : State) (r : Reg8) (rm : Eb) : State :=
  ((s.gapEb rm).writeEb rm (s.reg8 r)).setReg8 r (s.readEb rm)

/-- XCHG of a word (R119). -/
def State.exchange16 (s : State) (r : Reg16) (rm : Ev) : State :=
  ((s.gapEv rm).writeEv rm (s.reg16 r)).setReg16 r (s.readEv rm)

/-- XCHG AX, r16 (R120). -/
def State.exchangeAx (s : State) (r : Reg16) : State := { s with ax := s.reg16 r }.setReg16 r s.ax

/-- IN AL (R122). -/
def State.inByte (s : State) (port : Word) : State := (s.ioByteRead port).setReg8 .al (s.ioByte port)

/-- IN AX (R122). -/
def State.inWord (s : State) (port : Word) : State := { s.ioWordRead port with ax := s.ioWord port }

/-- LDS and LES: both words are read before a register is written; interrupts are not held off (R125, R126, D11). -/
def State.loadPointer (s : State) (r : SReg) (dst : Reg16) (m : MemOp) : State :=
  (s.busGap.setReg16 dst (s.pointerOff m)).setSreg r (s.busGap.pointerBase m)

/-- 50H–57H `PUSH r16` (R117). -/
def execPushR16 (r : Reg16) (s : State) : Outcome := .next (s.pushReg r)

/-- 58H–5FH `POP r16` (R118). -/
def execPopR16 (r : Reg16) (s : State) : Outcome := .next (s.drop16.setReg16 r s.top16)

/-- 86H `XCHG Gb, Eb` (R119). -/
def execXchgGbEb (r : Reg8) (rm : Eb) (s : State) : Outcome := .next (s.exchange8 r rm)

/-- 87H `XCHG Gv, Ev` (R119). -/
def execXchgGvEv (r : Reg16) (rm : Ev) (s : State) : Outcome := .next (s.exchange16 r rm)

/-- 88H `MOV Eb, Gb` (R111). -/
def execMovEbGb (dst : Eb) (src : Reg8) (s : State) : Outcome := .next (s.writeEb dst (s.reg8 src))

/-- 89H `MOV Ev, Gv` (R111). -/
def execMovEvGv (dst : Ev) (src : Reg16) (s : State) : Outcome := .next (s.writeEv dst (s.reg16 src))

/-- 8AH `MOV Gb, Eb` (R111). -/
def execMovGbEb (dst : Reg8) (src : Eb) (s : State) : Outcome := .next (s.setReg8 dst (s.readEb src))

/-- 8BH `MOV Gv, Ev` (R111). -/
def execMovGvEv (dst : Reg16) (src : Ev) (s : State) : Outcome := .next (s.setReg16 dst (s.readEv src))

/-- 8CH `MOV Ev, SEGREG` (R116). -/
def execMovEvSeg (dst : Ev) (src : SReg) (s : State) : Outcome := .next (s.writeEv dst (s.sreg src))

/-- 8DH `LEA Gv, MEM16` (R124). -/
def execLea (dst : Reg16) (src : MemOp) (s : State) : Outcome := .next (s.setReg16 dst (s.ea src))

/-- 8EH `MOV ES, Ev` (R115). -/
def execMovEsEv (src : Ev) (s : State) : Outcome := .next (s.loadSeg .es (s.readEv src))

/-- 8EH `MOV SS, Ev` (R115). -/
def execMovSsEv (src : Ev) (s : State) : Outcome := .next (s.loadSeg .ss (s.readEv src))

/-- 8EH `MOV DS, Ev` (R115). -/
def execMovDsEv (src : Ev) (s : State) : Outcome := .next (s.loadSeg .ds (s.readEv src))

/-- 8FH /0 `POP Ev` (R118). -/
def execPopEv (dst : Ev) (s : State) : Outcome := .next ((s.drop16.gapEv dst).writeEv dst s.top16)

/-- A0H `MOV AL, mem8` (direct address) (R114). -/
def execMovAlMem (off : Word) (s : State) : Outcome := .next (s.setReg8 .al (s.read8 (s.segOr .ds) off))

/-- A1H `MOV AX, mem16` (R114). -/
def execMovAxMem (off : Word) (s : State) : Outcome := .next { s with ax := s.read16 (s.segOr .ds) off }

/-- A2H `MOV mem8, AL` (R114). -/
def execMovMemAl (off : Word) (s : State) : Outcome := .next (s.write8 (s.segOr .ds) off (s.reg8 .al))

/-- A3H `MOV mem16, AX` (R114). -/
def execMovMemAx (off : Word) (s : State) : Outcome := .next (s.write16 (s.segOr .ds) off s.ax)

/-- B0H–B7H `MOV r8, Ib` (R113). -/
def execMovR8Ib (r : Reg8) (imm : Byte) (s : State) : Outcome := .next (s.setReg8 r imm)

/-- B8H–BFH `MOV r16, Iv` (R113). -/
def execMovR16Iv (r : Reg16) (imm : Word) (s : State) : Outcome := .next (s.setReg16 r imm)

/-- C4H `LES Gv, MEM32` (R126). -/
def execLes (dst : Reg16) (src : MemOp) (s : State) : Outcome := .next (s.loadPointer .es dst src)

/-- C5H `LDS Gv, MEM32` (R125). -/
def execLds (dst : Reg16) (src : MemOp) (s : State) : Outcome := .next (s.loadPointer .ds dst src)

/-- C6H /0 `MOV Eb, Ib` (R112). -/
def execMovEbIb (dst : Eb) (imm : Byte) (s : State) : Outcome := .next (s.writeEb dst imm)

/-- C7H /0 `MOV Ev, Iv` (R112). -/
def execMovEvIv (dst : Ev) (imm : Word) (s : State) : Outcome := .next (s.writeEv dst imm)

/-- E4H `IN AL, Ib` (R122). -/
def execInAlIb (port : Byte) (s : State) : Outcome := .next (s.inByte (port.setWidth 16))

/-- E5H `IN AX, Ib` (R122). -/
def execInAxIb (port : Byte) (s : State) : Outcome := .next (s.inWord (port.setWidth 16))

/-- E6H `OUT Ib, AL` (R123). -/
def execOutIbAl (port : Byte) (s : State) : Outcome := .next (s.ioByteWrite (port.setWidth 16) (s.reg8 .al))

/-- E7H `OUT Ib, AX` (R123). -/
def execOutIbAx (port : Byte) (s : State) : Outcome := .next (s.ioWordWrite (port.setWidth 16) s.ax)

/-- FFH /6 `PUSH Ev` (R117). -/
def execPushEv (src : Ev) (s : State) : Outcome := .next (s.pushOperand src)

/-- 06H `PUSH ES` (R117). -/
def execPushEs (s : State) : Outcome := .next (s.push16 s.es)

/-- 07H `POP ES` (R118). -/
def execPopEs (s : State) : Outcome := .next (s.drop16.loadSeg .es s.top16)

/-- 0EH `PUSH CS` (R117). -/
def execPushCs (s : State) : Outcome := .next (s.push16 s.cs)

/-- 16H `PUSH SS` (R117). -/
def execPushSs (s : State) : Outcome := .next (s.push16 s.ss)

/-- 17H `POP SS` (R118). -/
def execPopSs (s : State) : Outcome := .next (s.drop16.loadSeg .ss s.top16)

/-- 1EH `PUSH DS` (R117). -/
def execPushDs (s : State) : Outcome := .next (s.push16 s.ds)

/-- 1FH `POP DS` (R118). -/
def execPopDs (s : State) : Outcome := .next (s.drop16.loadSeg .ds s.top16)

/-- 91H `XCHG AX, CX` (R120). -/
def execXchgAxCx (s : State) : Outcome := .next (s.exchangeAx .cx)

/-- 92H `XCHG AX, DX` (R120). -/
def execXchgAxDx (s : State) : Outcome := .next (s.exchangeAx .dx)

/-- 93H `XCHG AX, BX` (R120). -/
def execXchgAxBx (s : State) : Outcome := .next (s.exchangeAx .bx)

/-- 94H `XCHG AX, SP` (R120). -/
def execXchgAxSp (s : State) : Outcome := .next (s.exchangeAx .sp)

/-- 95H `XCHG AX, BP` (R120). -/
def execXchgAxBp (s : State) : Outcome := .next (s.exchangeAx .bp)

/-- 96H `XCHG AX, SI` (R120). -/
def execXchgAxSi (s : State) : Outcome := .next (s.exchangeAx .si)

/-- 97H `XCHG AX, DI` (R120). -/
def execXchgAxDi (s : State) : Outcome := .next (s.exchangeAx .di)

/-- 9CH `PUSHF` (R129). -/
def execPushf (s : State) : Outcome := .next (s.push16 s.flags.toWord)

/-- 9DH `POPF` (R130). -/
def execPopf (s : State) : Outcome := .next (s.drop16.setFlags (.ofWord s.top16))

/-- 9EH `SAHF` (R128). -/
def execSahf (s : State) : Outcome := .next (s.setFlags (s.flags.withLowByte (s.reg8 .ah)))

/-- 9FH `LAHF` (R127). -/
def execLahf (s : State) : Outcome := .next (s.setReg8 .ah (loByte s.flags.toWord))

/-- D7H `XLAT` (R121). -/
def execXlat (s : State) : Outcome := .next (s.setReg8 .al (s.read8 (s.segOr .ds) (s.bx + (s.reg8 .al).setWidth 16)))

/-- ECH `IN AL, DX` (R122). -/
def execInAlDx (s : State) : Outcome := .next (s.inByte s.dx)

/-- EDH `IN AX, DX` (R122). -/
def execInAxDx (s : State) : Outcome := .next (s.inWord s.dx)

/-- EEH `OUT DX, AL` (R123). -/
def execOutDxAl (s : State) : Outcome := .next (s.ioByteWrite s.dx (s.reg8 .al))

/-- EFH `OUT DX, AX` (R123). -/
def execOutDxAx (s : State) : Outcome := .next (s.ioWordWrite s.dx s.ax)

end Sys2Proof.Machine
end

