-- ==== Sys2Proof/Machine/Logic.lean ====
section
/-! DEFINITION. The logicals (spec/42_logic_shift.md R170 to R175). -/
namespace Sys2Proof.Machine

/-- 08H `OR Eb, Gb` (R173). -/
def execOrEbGb (dst : Eb) (src : Reg8) (s : State) : Outcome := .next (s.drew.aluEb (orOp s.undef) dst (s.reg8 src))

/-- 09H `OR Ev, Gv` (R173). -/
def execOrEvGv (dst : Ev) (src : Reg16) (s : State) : Outcome := .next (s.drew.aluEv (orOp s.undef) dst (s.reg16 src))

/-- 0AH `OR Gb, Eb` (R173). -/
def execOrGbEb (dst : Reg8) (src : Eb) (s : State) : Outcome := .next (s.drew.aluR8 (orOp s.undef) dst (s.readEb src))

/-- 0BH `OR Gv, Ev` (R173). -/
def execOrGvEv (dst : Reg16) (src : Ev) (s : State) : Outcome :=
  .next (s.drew.aluR16 (orOp s.undef) dst (s.readEv src))

/-- 0CH `OR AL, Ib` (R173). -/
def execOrAlIb (imm : Byte) (s : State) : Outcome := .next (s.drew.aluR8 (orOp s.undef) .al imm)

/-- 0DH `OR AX, Iv` (R173). -/
def execOrAxIv (imm : Word) (s : State) : Outcome := .next (s.drew.aluR16 (orOp s.undef) .ax imm)

/-- 20H `AND Eb, Gb` (R172). -/
def execAndEbGb (dst : Eb) (src : Reg8) (s : State) : Outcome := .next (s.drew.aluEb (andOp s.undef) dst (s.reg8 src))

/-- 21H `AND Ev, Gv` (R172). -/
def execAndEvGv (dst : Ev) (src : Reg16) (s : State) : Outcome :=
  .next (s.drew.aluEv (andOp s.undef) dst (s.reg16 src))

/-- 22H `AND Gb, Eb` (R172). -/
def execAndGbEb (dst : Reg8) (src : Eb) (s : State) : Outcome :=
  .next (s.drew.aluR8 (andOp s.undef) dst (s.readEb src))

/-- 23H `AND Gv, Ev` (R172). -/
def execAndGvEv (dst : Reg16) (src : Ev) (s : State) : Outcome :=
  .next (s.drew.aluR16 (andOp s.undef) dst (s.readEv src))

/-- 24H `AND AL, Ib` (R172). -/
def execAndAlIb (imm : Byte) (s : State) : Outcome := .next (s.drew.aluR8 (andOp s.undef) .al imm)

/-- 25H `AND AX, Iv` (R172). -/
def execAndAxIv (imm : Word) (s : State) : Outcome := .next (s.drew.aluR16 (andOp s.undef) .ax imm)

/-- 30H `XOR Eb, Gb` (R174). -/
def execXorEbGb (dst : Eb) (src : Reg8) (s : State) : Outcome := .next (s.drew.aluEb (xorOp s.undef) dst (s.reg8 src))

/-- 31H `XOR Ev, Gv` (R174). -/
def execXorEvGv (dst : Ev) (src : Reg16) (s : State) : Outcome :=
  .next (s.drew.aluEv (xorOp s.undef) dst (s.reg16 src))

/-- 32H `XOR Gb, Eb` (R174). -/
def execXorGbEb (dst : Reg8) (src : Eb) (s : State) : Outcome :=
  .next (s.drew.aluR8 (xorOp s.undef) dst (s.readEb src))

/-- 33H `XOR Gv, Ev` (R174). -/
def execXorGvEv (dst : Reg16) (src : Ev) (s : State) : Outcome :=
  .next (s.drew.aluR16 (xorOp s.undef) dst (s.readEv src))

/-- 34H `XOR AL, Ib` (R174). -/
def execXorAlIb (imm : Byte) (s : State) : Outcome := .next (s.drew.aluR8 (xorOp s.undef) .al imm)

/-- 35H `XOR AX, Iv` (R174). -/
def execXorAxIv (imm : Word) (s : State) : Outcome := .next (s.drew.aluR16 (xorOp s.undef) .ax imm)

/-- 80H /1 `OR Eb, Ib` (R173). -/
def execOrEbIb (dst : Eb) (imm : Byte) (s : State) : Outcome := .next (s.drew.aluEb (orOp s.undef) dst imm)

/-- 80H /4 `AND Eb, Ib` (R172). -/
def execAndEbIb (dst : Eb) (imm : Byte) (s : State) : Outcome := .next (s.drew.aluEb (andOp s.undef) dst imm)

/-- 80H /6 `XOR Eb, Ib` (R174). -/
def execXorEbIb (dst : Eb) (imm : Byte) (s : State) : Outcome := .next (s.drew.aluEb (xorOp s.undef) dst imm)

/-- 81H /1 `OR Ev, Iv` (R173). -/
def execOrEvIv (dst : Ev) (imm : Word) (s : State) : Outcome := .next (s.drew.aluEv (orOp s.undef) dst imm)

/-- 81H /4 `AND Ev, Iv` (R172). -/
def execAndEvIv (dst : Ev) (imm : Word) (s : State) : Outcome := .next (s.drew.aluEv (andOp s.undef) dst imm)

/-- 81H /6 `XOR Ev, Iv` (R174). -/
def execXorEvIv (dst : Ev) (imm : Word) (s : State) : Outcome := .next (s.drew.aluEv (xorOp s.undef) dst imm)

/-- 84H `TEST Eb, Gb` (R175). -/
def execTestEbGb (a : Eb) (b : Reg8) (s : State) : Outcome :=
  .next (s.drew.flags8 (andOp s.undef) (s.readEb a) (s.reg8 b))

/-- 85H `TEST Ev, Gv` (R175). -/
def execTestEvGv (a : Ev) (b : Reg16) (s : State) : Outcome :=
  .next (s.drew.flags16 (andOp s.undef) (s.readEv a) (s.reg16 b))

/-- A8H `TEST AL, Ib` (R175). -/
def execTestAlIb (imm : Byte) (s : State) : Outcome := .next (s.drew.flags8 (andOp s.undef) (s.reg8 .al) imm)

/-- A9H `TEST AX, Iv` (R175). -/
def execTestAxIv (imm : Word) (s : State) : Outcome := .next (s.drew.flags16 (andOp s.undef) s.ax imm)

/-- F6H /0 `TEST Eb, Ib` (R175). -/
def execTestEbIb (a : Eb) (imm : Byte) (s : State) : Outcome := .next (s.drew.flags8 (andOp s.undef) (s.readEb a) imm)

/-- F6H /2 `NOT Eb` (R171). -/
def execNotEb (dst : Eb) (s : State) : Outcome := .next (s.rmwEb dst notOp)

/-- F7H /0 `TEST Ev, Iv` (R175). -/
def execTestEvIv (a : Ev) (imm : Word) (s : State) : Outcome :=
  .next (s.drew.flags16 (andOp s.undef) (s.readEv a) imm)

/-- F7H /2 `NOT Ev` (R171). -/
def execNotEv (dst : Ev) (s : State) : Outcome := .next (s.rmwEv dst notOp)

end Sys2Proof.Machine
end

