-- ==== Sys2Proof/Machine/Prefixes.lean ====
section
/-! DEFINITION. The prefixes (spec/30_encoding.md R96 to R100): each is remembered for the instruction it precedes, a
later one of the same kind in place of an earlier. -/
namespace Sys2Proof.Machine

/-- The offset of this prefix byte is remembered (spec/43_string.md R196). IP already stands behind it. -/
def State.prefixByte (s : State) : State := { s with cur := { s.cur with ipPrefix := s.ip - 1 } }

/-- A segment override (R96, R99). -/
def State.overrideSeg (s : State) (r : SReg) : State :=
  { s.prefixByte with cur := { s.prefixByte.cur with segOverride := some r } }

/-- A repeat prefix with its bit z (R98, R99). -/
def State.repeatPrefix (s : State) (z : Bool) : State :=
  { s.prefixByte with cur := { s.prefixByte.cur with rep := some z } }

/-- 26H segment-override prefix `ES:` (R96). -/
def execSegEs (s : State) : Outcome := .next (s.overrideSeg .es)

/-- 2EH segment-override prefix `CS:` (R96). -/
def execSegCs (s : State) : Outcome := .next (s.overrideSeg .cs)

/-- 36H segment-override prefix `SS:` (R96). -/
def execSegSs (s : State) : Outcome := .next (s.overrideSeg .ss)

/-- 3EH segment-override prefix `DS:` (R96). -/
def execSegDs (s : State) : Outcome := .next (s.overrideSeg .ds)

/-- F0H prefix `LOCK` (R97, R262). -/
def execLock (s : State) : Outcome := .next (s.prefixByte.setLock true)

/-- F2H prefix `REPNE` (z = 0) (R98, R196). -/
def execRepne (s : State) : Outcome := .next (s.repeatPrefix false)

/-- F3H prefix `REP` (z = 1) (R98, R196). -/
def execRep (s : State) : Outcome := .next (s.repeatPrefix true)

end Sys2Proof.Machine
end

