-- ==== Sys2Proof/Machine/Reserved.lean ====
section
/-! DEFINITION. The encodings to which the spec gives no behaviour: the treatment `refuse` (spec/30_encoding.md R102,
R104, R105, R106; spec/93_implementation_defined.md U3, U4). -/
namespace Sys2Proof.Machine

/-- 60H–6FH, marked "(not used)"; `low` is the low nibble (R104): refused. -/
def execNotUsed60 (_low : BitVec 4) (_s : State) : Outcome := .refused .notUsed

/-- 82H /1, /4, /6, marked "(not used)" (R104): refused. -/
def execNotUsed82 (_modrm : Byte) (_s : State) : Outcome := .refused .notUsed

/-- 83H /1, /4, /6, marked "(not used)" (R104): refused. -/
def execNotUsed83 (_modrm : Byte) (_s : State) : Outcome := .refused .notUsed

/-- 8CH with bit 5 of the second byte set, marked "(not used)" (R104): refused. -/
def execNotUsed8C (_modrm : Byte) (_s : State) : Outcome := .refused .notUsed

/-- 8DH with MOD = 11: `LEA` of a register (R106): refused. -/
def execRefusedLea (_dst : Reg16) (_src : Reg16) (_s : State) : Outcome := .refused .memoryOperandMissing

/-- 8EH with REG = 001: `MOV CS, Ev` (R105): refused. -/
def execRefusedMovCs (_modrm : Byte) (_s : State) : Outcome := .refused .movToCs

/-- 8EH with bit 5 of the second byte set, marked "(not used)" (R104): refused. -/
def execNotUsed8E (_modrm : Byte) (_s : State) : Outcome := .refused .notUsed

/-- 8FH /1 to /7, marked "(not used)" (R104): refused. -/
def execNotUsed8F (_modrm : Byte) (_s : State) : Outcome := .refused .notUsed

/-- C0H and C1H, marked "(not used)"; `low` is bit 0 (R104): refused. -/
def execNotUsedC0 (_low : BitVec 1) (_s : State) : Outcome := .refused .notUsed

/-- C4H with MOD = 11: `LES` of a register (R106): refused. -/
def execRefusedLes (_dst : Reg16) (_src : Reg16) (_s : State) : Outcome := .refused .memoryOperandMissing

/-- C5H with MOD = 11: `LDS` of a register (R106): refused. -/
def execRefusedLds (_dst : Reg16) (_src : Reg16) (_s : State) : Outcome := .refused .memoryOperandMissing

/-- C6H /1 to /7, marked "(not used)" (R104): refused. -/
def execNotUsedC6 (_modrm : Byte) (_s : State) : Outcome := .refused .notUsed

/-- C7H /1 to /7, marked "(not used)" (R104): refused. -/
def execNotUsedC7 (_modrm : Byte) (_s : State) : Outcome := .refused .notUsed

/-- C8H and C9H, marked "(not used)"; `low` is bit 0 (R104): refused. -/
def execNotUsedC8 (_low : BitVec 1) (_s : State) : Outcome := .refused .notUsed

/-- D0H /6, marked "(not used)" (R104): refused. -/
def execNotUsedD0 (_modrm : Byte) (_s : State) : Outcome := .refused .notUsed

/-- D1H /6, marked "(not used)" (R104): refused. -/
def execNotUsedD1 (_modrm : Byte) (_s : State) : Outcome := .refused .notUsed

/-- D2H /6, marked "(not used)" (R104): refused. -/
def execNotUsedD2 (_modrm : Byte) (_s : State) : Outcome := .refused .notUsed

/-- D3H /6, marked "(not used)" (R104): refused. -/
def execNotUsedD3 (_modrm : Byte) (_s : State) : Outcome := .refused .notUsed

/-- D4H with a second byte other than 0AH (R102): refused. -/
def execRefusedAam (_b : Byte) (_s : State) : Outcome := .refused .secondByteNot0A

/-- D5H with a second byte other than 0AH (R102): refused. -/
def execRefusedAad (_b : Byte) (_s : State) : Outcome := .refused .secondByteNot0A

/-- F6H /1, marked "(not used)" (R104): refused. -/
def execNotUsedF6 (_modrm : Byte) (_s : State) : Outcome := .refused .notUsed

/-- F7H /1, marked "(not used)" (R104): refused. -/
def execNotUsedF7 (_modrm : Byte) (_s : State) : Outcome := .refused .notUsed

/-- FEH /2 to /7, marked "(not used)" (R104): refused. -/
def execNotUsedFE (_modrm : Byte) (_s : State) : Outcome := .refused .notUsed

/-- FFH /3 with MOD = 11 (R106): refused. -/
def execRefusedCallMem32 (_r : Reg16) (_s : State) : Outcome := .refused .memoryOperandMissing

/-- FFH /5 with MOD = 11 (R106): refused. -/
def execRefusedJmpMem32 (_r : Reg16) (_s : State) : Outcome := .refused .memoryOperandMissing

/-- FFH /7, marked "(not used)" (R104): refused. -/
def execNotUsedFF (_modrm : Byte) (_s : State) : Outcome := .refused .notUsed

/-- 0FH, marked "(not used)"; it would be `POP CS` (R105) (R104): refused. -/
def execNotUsed0F (_s : State) : Outcome := .refused .notUsed

/-- D6H, marked "(not used)" (R104): refused. -/
def execNotUsedD6 (_s : State) : Outcome := .refused .notUsed

/-- F1H, marked "(not used)" (R104): refused. -/
def execNotUsedF1 (_s : State) : Outcome := .refused .notUsed

end Sys2Proof.Machine
end

