-- ==== Sys2Proof/Machine/Shift.lean ====
section
/-! DEFINITION. The shifts and rotates (spec/42_logic_shift.md R176 to R183). -/
namespace Sys2Proof.Machine

/-- D0H /0 `ROL Eb, 1` (R180, R176). -/
def execRolEb1 (dst : Eb) (s : State) : Outcome := .next (s.shiftEb .rol 1 dst)

/-- D0H /1 `ROR Eb, 1` (R181, R176). -/
def execRorEb1 (dst : Eb) (s : State) : Outcome := .next (s.shiftEb .ror 1 dst)

/-- D0H /2 `RCL Eb, 1` (R182, R176). -/
def execRclEb1 (dst : Eb) (s : State) : Outcome := .next (s.shiftEb .rcl 1 dst)

/-- D0H /3 `RCR Eb, 1` (R183, R176). -/
def execRcrEb1 (dst : Eb) (s : State) : Outcome := .next (s.shiftEb .rcr 1 dst)

/-- D0H /4 `SHL Eb, 1` (R177, R176). -/
def execShlEb1 (dst : Eb) (s : State) : Outcome := .next (s.shiftEb .shl 1 dst)

/-- D0H /5 `SHR Eb, 1` (R178, R176). -/
def execShrEb1 (dst : Eb) (s : State) : Outcome := .next (s.shiftEb .shr 1 dst)

/-- D0H /7 `SAR Eb, 1` (R179, R176). -/
def execSarEb1 (dst : Eb) (s : State) : Outcome := .next (s.shiftEb .sar 1 dst)

/-- D1H /0 `ROL Ev, 1` (R180, R176). -/
def execRolEv1 (dst : Ev) (s : State) : Outcome := .next (s.shiftEv .rol 1 dst)

/-- D1H /1 `ROR Ev, 1` (R181, R176). -/
def execRorEv1 (dst : Ev) (s : State) : Outcome := .next (s.shiftEv .ror 1 dst)

/-- D1H /2 `RCL Ev, 1` (R182, R176). -/
def execRclEv1 (dst : Ev) (s : State) : Outcome := .next (s.shiftEv .rcl 1 dst)

/-- D1H /3 `RCR Ev, 1` (R183, R176). -/
def execRcrEv1 (dst : Ev) (s : State) : Outcome := .next (s.shiftEv .rcr 1 dst)

/-- D1H /4 `SHL Ev, 1` (R177, R176). -/
def execShlEv1 (dst : Ev) (s : State) : Outcome := .next (s.shiftEv .shl 1 dst)

/-- D1H /5 `SHR Ev, 1` (R178, R176). -/
def execShrEv1 (dst : Ev) (s : State) : Outcome := .next (s.shiftEv .shr 1 dst)

/-- D1H /7 `SAR Ev, 1` (R179, R176). -/
def execSarEv1 (dst : Ev) (s : State) : Outcome := .next (s.shiftEv .sar 1 dst)

/-- D2H /0 `ROL Eb, CL` (R180, R176). -/
def execRolEbCl (dst : Eb) (s : State) : Outcome := .next (s.shiftEb .rol (s.reg8 .cl).toNat dst)

/-- D2H /1 `ROR Eb, CL` (R181, R176). -/
def execRorEbCl (dst : Eb) (s : State) : Outcome := .next (s.shiftEb .ror (s.reg8 .cl).toNat dst)

/-- D2H /2 `RCL Eb, CL` (R182, R176). -/
def execRclEbCl (dst : Eb) (s : State) : Outcome := .next (s.shiftEb .rcl (s.reg8 .cl).toNat dst)

/-- D2H /3 `RCR Eb, CL` (R183, R176). -/
def execRcrEbCl (dst : Eb) (s : State) : Outcome := .next (s.shiftEb .rcr (s.reg8 .cl).toNat dst)

/-- D2H /4 `SHL Eb, CL` (R177, R176). -/
def execShlEbCl (dst : Eb) (s : State) : Outcome := .next (s.shiftEb .shl (s.reg8 .cl).toNat dst)

/-- D2H /5 `SHR Eb, CL` (R178, R176). -/
def execShrEbCl (dst : Eb) (s : State) : Outcome := .next (s.shiftEb .shr (s.reg8 .cl).toNat dst)

/-- D2H /7 `SAR Eb, CL` (R179, R176). -/
def execSarEbCl (dst : Eb) (s : State) : Outcome := .next (s.shiftEb .sar (s.reg8 .cl).toNat dst)

/-- D3H /0 `ROL Ev, CL` (R180, R176). -/
def execRolEvCl (dst : Ev) (s : State) : Outcome := .next (s.shiftEv .rol (s.reg8 .cl).toNat dst)

/-- D3H /1 `ROR Ev, CL` (R181, R176). -/
def execRorEvCl (dst : Ev) (s : State) : Outcome := .next (s.shiftEv .ror (s.reg8 .cl).toNat dst)

/-- D3H /2 `RCL Ev, CL` (R182, R176). -/
def execRclEvCl (dst : Ev) (s : State) : Outcome := .next (s.shiftEv .rcl (s.reg8 .cl).toNat dst)

/-- D3H /3 `RCR Ev, CL` (R183, R176). -/
def execRcrEvCl (dst : Ev) (s : State) : Outcome := .next (s.shiftEv .rcr (s.reg8 .cl).toNat dst)

/-- D3H /4 `SHL Ev, CL` (R177, R176). -/
def execShlEvCl (dst : Ev) (s : State) : Outcome := .next (s.shiftEv .shl (s.reg8 .cl).toNat dst)

/-- D3H /5 `SHR Ev, CL` (R178, R176). -/
def execShrEvCl (dst : Ev) (s : State) : Outcome := .next (s.shiftEv .shr (s.reg8 .cl).toNat dst)

/-- D3H /7 `SAR Ev, CL` (R179, R176). -/
def execSarEvCl (dst : Ev) (s : State) : Outcome := .next (s.shiftEv .sar (s.reg8 .cl).toNat dst)

end Sys2Proof.Machine
end

