-- ==== Sys2Proof/Machine/Sampling.lean ====
section
/-! DEFINITION. What comes from outside the CPU and when it is looked at: pin events, the prefetch queue against
stores, the reading of instruction bytes, and the sampling of interrupts (spec/60_exceptions.md R274 to R279, R287,
R291, R292; spec/20_memory.md R58, R62). -/
namespace Sys2Proof.Machine

/-! ## The platform -/

/-- RESET goes high or low. Going high is remembered until the CPU acts on it (log 31), loses a pending NMI and what was
asked for on RQ*/GT* (spec/70_reset_and_hazards.md R310, R312; logs 28 and 30). -/
def State.resetLevel (s : State) (high : Bool) : State :=
  { s with
    nmiPending := s.nmiPending && !high
    resetSeen := s.resetSeen || (high && !s.pins.reset)
    pins := { s.pins with reset := high, rq0 := s.pins.rq0 && !high, rq1 := s.pins.rq1 && !high } }

/-- The level of HOLD. When it falls the bus comes back, so that HLDA falls before it can rise again (R62). -/
def State.holdLevel (s : State) (request : Bool) : State :=
  let t := if request then s else s.giveBack .hold
  { t with pins := { t.pins with hold := request } }

/-- A pulse on RQ*/GT0* or RQ*/GT1*, not acknowledged while RESET is high (R62, R312). The pulse that releases the bus
ends the grant, so that a request of the same line after it stands behind one of RQ*/GT0*. -/
def State.rqPulse (s : State) (line : GrantLine) (request : Bool) : State :=
  let t := if request then s else s.giveBack (.line line)
  match line with
  | .gt0 => { t with pins := { t.pins with rq0 := request && !t.pins.reset } }
  | .gt1 => { t with pins := { t.pins with rq1 := request && !t.pins.reset } }

/-- One event of the platform. An NMI edge is latched (spec/10_state.md R31) unless RESET is high
(spec/70_reset_and_hazards.md R312; log 28), so one that comes after RESET has gone low stays; the levels are only
remembered as what the platform drives (R35); a device, or what answers where nothing is, shows another byte
(spec/20_memory.md R63). -/
def State.pinEvent (s : State) (e : PinEvent) : State :=
  match e with
  | .nmiEdge => { s with nmiPending := s.nmiPending || !s.pins.reset }
  | .intr level type => { s with pins := { s.pins with intrLine := level, intrType := type } }
  | .test low => { s with pins := { s.pins with testLow := low } }
  | .reset high => s.resetLevel high
  | .hold request => s.holdLevel request
  | .rq line request => s.rqPulse line request
  | .shows a v => { s with mem := Memory.put s.params (fun k => k == .ram || k == .rom) s.mem (a, v) }

/-- The platform's next entry of events takes effect, in its order. A level that rises and falls within one entry leaves
no trace, but for RESET, whose rise is remembered (log 31), and NMI, which is latched; a fall of HOLD takes the bus back
(log 32). -/
def State.nextEvents (s : State) : State :=
  match s.outside with
  | [] => s
  | es :: rest => es.foldl State.pinEvent { s with outside := rest }

/-- One look at the outside: events at the pins, then whatever other masters do to memory. -/
def State.look (s : State) : State := s.nextEvents.busGap

/-! ## The instruction queue against stores -/

/-- How many bytes the queue holds (spec/10_state.md R33). -/
def State.queueSize (s : State) : Nat :=
  match s.params.variant with
  | .i8086 => 6
  | .i8088 => 4

/-- The offset of the next byte to execute, from which the queue is counted: after a waiting WAIT, the next instruction.
-/
def State.fetchPoint (s : State) : Word :=
  match s.run with
  | .waiting next => next
  | _ => s.ip

/-- The instruction byte at distance `i` from the fetch point in memory (R82). -/
def State.codeByte (s : State) (i : Nat) : Byte := s.read8 s.cs (s.fetchPoint + BitVec.ofNat 16 i)

/-- The queue's copy at distance `i` once memory has gone from `s` to `t`: a copy that is there stays; a byte that has
changed was prefetched before the store or not, and the spec leaves open which (R58, D21; log 9). -/
def State.queueEntry (s t : State) (i : Nat) : Option Byte :=
  match t.queue[i]?.join with
  | some b => some b
  | none =>
    if s.read8 t.cs (t.fetchPoint + BitVec.ofNat 16 i) = t.codeByte i then none
    else if Config.queueKeepsOld t.drawn i then some (s.read8 t.cs (t.fetchPoint + BitVec.ofNat 16 i))
    else none

/-- The queue of `t` after the stores that took memory from `s` to `t`, with no control transfer between (R58). Of a byte
stored to more than once between them only the first and the last value count: DESIGN CHOICE (log 9). -/
def State.keepPrefetched (t s : State) : State :=
  if s.mem = t.mem then t
  else { t.drew with queue := (List.range t.queueSize).map (s.queueEntry t) }

/-- A look between instructions; a store by another master may have come after a prefetch (spec/60_exceptions.md R306
steps 2 and 7, R58), but not while bus requests keep the CPU from its first fetch after RESET
(spec/70_reset_and_hazards.md R312). -/
def State.hear (s : State) : State :=
  if s.outside.isEmpty && s.masters.isEmpty then s
  else if !s.beforeFetch.isEmpty then s.look
  else s.look.keepPrefetched s

/-! ## Reading instruction bytes -/

/-- What the host hears of the reading of one instruction byte: a bus cycle at a device (spec/20_memory.md R63). -/
def Params.fetchHeard (p : Params) (a : Nat) : List HostCall := if p.kindAt a = .device then [.fetch8 a] else []

/-- What the host hears of the reading of `n` instruction bytes from `base:off` on, oldest first: an 8086 reads a word at
an even address in one cycle (spec/20_memory.md R54), an 8088 "one byte at a time" (spec/70_reset_and_hazards.md R333). Of
a word that is only half a device the host hears that byte, as with writes (log 35). -/
def Params.fetchCycles (p : Params) (base : Word) : Word → Nat → List HostCall
  | _, 0 => []
  | off, 1 => p.fetchHeard (phys base off)
  | off, n + 2 =>
    if p.wideCycle (phys base off) then
      (if p.kindAt (phys base off) = .device ∧ p.kindAt (phys base (off + 1)) = .device then [.fetch16 (phys base off)]
        else p.fetchHeard (phys base off) ++ p.fetchHeard (phys base (off + 1))) ++ p.fetchCycles base (off + 2) n
    else p.fetchHeard (phys base off) ++ p.fetchCycles base (off + 1) (n + 1)

/-- How many bytes from IP on have been read when the next `n` of them are executed: these, the ones read before, and
beyond them a free number up to the queue's size (R57, spec/70_reset_and_hazards.md R322; log 38). -/
def State.wantsRead (s : State) (n : Nat) : Nat := max s.prefetched (n + min (Config.bytesAhead s.drawn) s.queueSize)

/-- As `wantsRead`, but to the end of a word on an 8086, which reads the word at an even address whole (R54). -/
def State.readTo (s : State) (n : Nat) : Nat :=
  if s.params.variant = .i8086 ∧ (s.ip + BitVec.ofNat 16 (s.wantsRead n)).toNat % 2 = 1 then
    if n < s.wantsRead n then s.wantsRead n - 1 else s.wantsRead n + 1
  else s.wantsRead n

/-- Whether one of the next `n` instruction bytes, or one within the queue's size beyond them, is a device (R63). -/
def State.deviceAhead (s : State) (n : Nat) : Bool :=
  (List.range (n + s.queueSize)).any fun d => s.params.kindAt (phys s.cs (s.ip + BitVec.ofNat 16 d)) == .device

/-- The BIU reads the next `n` instruction bytes, unless it has read them before, and bytes beyond them; a device hears
each cycle, also of a byte that is then discarded (R57, spec/70_reset_and_hazards.md R322). Where no device is in reach
nothing is counted, since nobody hears it (log 38). -/
def State.prefetch (s : State) (n : Nat) : State :=
  if s.deviceAhead n then
    { s.drew with
      prefetched := s.readTo n
      trace := (s.params.fetchCycles s.cs (s.ip + BitVec.ofNat 16 s.prefetched) (s.readTo n - s.prefetched)).reverse ++
        s.trace }
  else s

/-! ## Sampling -/

/-- An interrupt taken at a sampling point: the bus lock ends when the sequence begins (spec/43_string.md R198). -/
def State.takeSampled (s : State) (n : Byte) : State := (s.setLock false).takeInterrupt n s.ip

/-- INTR is acknowledged: the host sees the INTA cycles, which give the type, with the bus locked for them and the pin
LOCK* active in maximum mode (R281); the lock of an instruction goes on over them and ends with them (log 37). -/
def State.acknowledged (s : State) : State := ((s.setLock true).record (.inta s.pins.intrType)).setLock false

/-- The external request that is taken now, if any: NMI before INTR, INTR only with IF = 1 (R275, R276, R287). `true`
says that a sequence was performed. -/
def State.takeExternal (s : State) : State × Bool :=
  if s.nmiPending then ({ s with nmiPending := false }.takeSampled 2, true)
  else if s.pins.intrLine && s.flags.iF then (s.acknowledged.takeSampled s.pins.intrType, true)
  else (s, false)

/-- An NMI or an INTR with IF = 1 stands (R275, R276), so that `takeExternal` takes it. -/
def State.externalDue (s : State) : Bool := s.nmiPending || (s.pins.intrLine && s.flags.iF)

/-- "When an interrupt is detected, the WAIT instruction is again fetched prior to servicing the interrupt" (R292;
spec/45_processor_control.md R259): a CPU that waits goes back to the first byte of the WAIT, and reads it from there
(log 38). -/
def State.refetchWait (s : State) : State :=
  match s.run with
  | .waiting next => if s.externalDue then { s with prefetched := 0 }.prefetch (next - s.ip).toNat else s
  | _ => s

/-- The sampling procedure (R287): `tf0` is TF when the instruction began, `seq` whether it performed an interrupt
sequence itself. A due single-step trap is dropped when a sequence came before an external one. The offset saved is IP
as it stands. -/
def State.sample (s : State) (tf0 seq : Bool) : State × Bool :=
  let p := s.takeExternal
  if tf0 && !(seq && p.2) then (p.1.takeSampled 1, true) else p

/-- The sampling procedure, with a WAIT that waits read again before it (R292), and a bus request served first (R279;
spec/20_memory.md R62): if something would be taken
while another master asks for the bus, the lock ends and the sampling waits until the bus is back. -/
def State.sampleAfterHold (s : State) (tf0 seq : Bool) : State :=
  let p := s.refetchWait.sample tf0 seq
  if p.2 && s.busRequest.isSome then
    { s.setLock false with unsampled := some { tf0 := tf0, seq := seq, resume := s.ip, relock := s.lock } }
  else p.1

/-- The sampling that was put off. If nothing is taken after all, the CPU goes on at `resume`: behind the instruction,
at the first byte of a repeated one, or idle as before. -/
def State.samplePutOff (s : State) (w : Sampling) : State :=
  let s := { s with unsampled := none }
  let p := s.refetchWait.sample w.tf0 w.seq
  if p.2 then { p.1 with cur := .idle }
  else { s.setLock w.relock with
    ip := w.resume
    queue := if w.resume = s.ip then s.queue else []
    prefetched := if w.resume = s.ip then s.prefetched else 0 }

/-! ## Between two repetitions -/

/-- RESET is asked for (spec/70_reset_and_hazards.md R310): nothing executes, and while the pin is high no NMI is
pending (R312). HLDA and LOCK* are driven inactive (R315, Table 1-40). -/
def State.enterReset (s : State) : State :=
  { s.regain.setLock false with
    run := .inReset
    nmiPending := s.nmiPending && !s.pins.reset
    inhibitInt := false
    unsampled := none
    queue := []
    prefetched := 0
    resetSeen := false
    cur := .idle }

/-- The CPU waits while another master has the bus, and the platform goes on (spec/20_memory.md R62). -/
def State.awaitBus : Nat → State → State
  | 0, s =>
    match s.heldBy with
    | none => s.regain
    | some m => s.release m
  | n + 1, s =>
    match s.heldBy with
    | none => s.regain
    | some m => State.awaitBus n (s.release m).look

/-- The instruction ends between two repetitions with the queue discarded. -/
def State.cutShort (s : State) : State := { s with cur := { s.cur with cut := true, jumped := true } }

/-- Interrupts between two repetitions (spec/43_string.md R197, R201; R291), sampled with the offset of the last prefix
byte. The instruction is cut short if one is taken, if RESET is asked for, or if the platform never gives the bus back;
then the sampling is put off, and the instruction begins again unless something is taken. -/
def State.sampleRepetition (s : State) : State :=
  if s.resetAsked then s.enterReset.cutShort
  else
    let t := { s with ip := s.cur.ipPrefix }
    if s.heldBy.isSome then
      { t with unsampled := some { tf0 := s.cur.tf0, seq := false, resume := s.cur.ip0, relock := false } }.cutShort
    else
      let p := t.sample s.cur.tf0 false
      if p.2 then p.1.cutShort else s

/-- The end of a repetition that is not the last (spec/43_string.md R196): the outside is looked at, a held bus is
waited for, and interrupts are sampled. One that finds LOCK holding off a bus request ends the lock (R198), and the
request is served before it (R279); if it is then gone, the lock is in force again. -/
def State.betweenRepetitions (s : State) : State :=
  let t := State.awaitBus s.look.outside.length s.look
  if t.lock && t.busRequest.isSome && (t.sample t.cur.tf0 false).2 then
    let u := (State.awaitBus t.outside.length (t.setLock false)).sampleRepetition
    if u.cur.cut then u else u.setLock true
  else t.sampleRepetition

end Sys2Proof.Machine
end

