-- ==== Sys2Proof/Machine/StringOps.lean ====
section
/-! DEFINITION. The string instructions and their repetition (spec/43_string.md R190 to R201). -/
namespace Sys2Proof.Machine

/-- The five primitives on bytes and on words (R190). -/
inductive Primitive where
  | movsb | movsw | cmpsb | cmpsw | scasb | scasw | lodsb | lodsw | stosb | stosw
deriving DecidableEq, Repr

/-- `delta` of R190 for elements of `n` bytes: down when DF = 1. -/
def State.stringDelta (s : State) (n : Word) : Word := if s.flags.dF then -n else n

/-- SI moved by `delta`, modulo 65536. -/
def State.stepSi (s : State) (n : Word) : State := { s with si := s.si + s.stringDelta n }

/-- DI moved by `delta`, modulo 65536. -/
def State.stepDi (s : State) (n : Word) : State := { s with di := s.di + s.stringDelta n }

/-- The source segment: DS unless overridden (R200). -/
def State.srcSeg (s : State) : Word := s.segOr .ds

/-- One execution of a primitive (R191 to R195); the destination string is always in ES (R200). -/
def State.stringOnce (s : State) (p : Primitive) : State :=
  match p with
  | .movsb => ((s.busGap.write8 s.es s.di (s.read8 s.srcSeg s.si)).stepSi 1).stepDi 1
  | .movsw => ((s.busGap.write16 s.es s.di (s.read16 s.srcSeg s.si)).stepSi 2).stepDi 2
  | .cmpsb => ((s.busGap.flags8 subOp (s.read8 s.srcSeg s.si) (s.busGap.read8 s.es s.di)).stepSi 1).stepDi 1
  | .cmpsw => ((s.busGap.flags16 subOp (s.read16 s.srcSeg s.si) (s.busGap.read16 s.es s.di)).stepSi 2).stepDi 2
  | .scasb => (s.flags8 subOp (s.reg8 .al) (s.read8 s.es s.di)).stepDi 1
  | .scasw => (s.flags16 subOp s.ax (s.read16 s.es s.di)).stepDi 2
  | .lodsb => (s.setReg8 .al (s.read8 s.srcSeg s.si)).stepSi 1
  | .lodsw => { s with ax := s.read16 s.srcSeg s.si }.stepSi 2
  | .stosb => (s.write8 s.es s.di (s.reg8 .al)).stepDi 1
  | .stosw => (s.write16 s.es s.di s.ax).stepDi 2

/-- Whether ZF can end the repetition: CMPS and SCAS only (R196). -/
def Primitive.compares : Primitive → Bool
  | .cmpsb | .cmpsw | .scasb | .scasw => true
  | .movsb | .movsw | .lodsb | .lodsw | .stosb | .stosw => false

/-- CX decremented, no flag changed (R196). -/
def State.countDown (s : State) : State := { s with cx := s.cx - 1 }

/-- The loop of R196 with CX not 0 on entry; the first argument bounds it and is CX's value. The outside is looked at
after the last repetition too, by the end of the instruction (`State.finish`; R291). -/
def State.repetitions (p : Primitive) (z : Bool) : Nat → State → State
  | 0, s => s
  | n + 1, s =>
    let t := (s.stringOnce p).countDown
    if p.compares && t.flags.zF != z then t
    else if t.cx = 0 then t
    else
      let u := t.betweenRepetitions
      if u.cur.cut then u else State.repetitions p z n u

/-- A primitive with or without a repeat prefix (R196): CX = 0 means no repetition at all. -/
def State.repeatString (s : State) (p : Primitive) : State :=
  match s.cur.rep with
  | none => s.stringOnce p
  | some z => State.repetitions p z s.cx.toNat s

/-- A4H `MOVS` on bytes (R191). -/
def execMovsb (s : State) : Outcome := .next (s.repeatString .movsb)

/-- A5H `MOVS` on words (R191). -/
def execMovsw (s : State) : Outcome := .next (s.repeatString .movsw)

/-- A6H `CMPS` on bytes (R192). -/
def execCmpsb (s : State) : Outcome := .next (s.repeatString .cmpsb)

/-- A7H `CMPS` on words (R192). -/
def execCmpsw (s : State) : Outcome := .next (s.repeatString .cmpsw)

/-- AAH `STOS` on bytes (R195). -/
def execStosb (s : State) : Outcome := .next (s.repeatString .stosb)

/-- ABH `STOS` on words (R195). -/
def execStosw (s : State) : Outcome := .next (s.repeatString .stosw)

/-- ACH `LODS` on bytes (R194). -/
def execLodsb (s : State) : Outcome := .next (s.repeatString .lodsb)

/-- ADH `LODS` on words (R194). -/
def execLodsw (s : State) : Outcome := .next (s.repeatString .lodsw)

/-- AEH `SCAS` on bytes (R193). -/
def execScasb (s : State) : Outcome := .next (s.repeatString .scasb)

/-- AFH `SCAS` on words (R193). -/
def execScasw (s : State) : Outcome := .next (s.repeatString .scasw)

end Sys2Proof.Machine
end

