-- ==== Sys2Proof/Machine/Transfer.lean ====
section
/-! DEFINITION. The program transfer instructions (spec/44_control_transfer.md R205 to R243). -/
namespace Sys2Proof.Machine

/-- A jump to IP_next plus a sign-extended byte (R215; spec/30_encoding.md R86). -/
def State.jumpShort (s : State) (inc : Byte) : State := s.jumpNear (s.ip + inc.signExtend 16)

/-- A conditional short jump: not taken, it leaves IP at the next instruction and the queue as it is (R219). -/
def State.jumpIf (s : State) (cond : Bool) (inc : Byte) : State := if cond then s.jumpShort inc else s

/-- An intersegment call: CS is pushed, then IP_next (R208). -/
def State.callFarTo (s : State) (base off : Word) : State := ((s.push16 s.cs).busGap.push16 s.ip).jumpFar base off

/-- SP raised by RET's pop-value (R211). -/
def State.addSp (s : State) (n : Word) : State := { s with sp := s.sp + n }

/-- An intersegment return: IP is popped, then CS, then the pop-value is added to SP (R212, R213). -/
def State.returnFar (s : State) (n : Word) : State :=
  (s.drop16.busGap.drop16.addSp n).jumpFar s.drop16.busGap.top16 s.top16

/-- 70H `JO short-label` (R220). -/
def execJo (inc : Byte) (s : State) : Outcome := .next (s.jumpIf s.flags.oF inc)

/-- 71H `JNO short-label` (R221). -/
def execJno (inc : Byte) (s : State) : Outcome := .next (s.jumpIf (!s.flags.oF) inc)

/-- 72H `JB short-label` (R222). -/
def execJb (inc : Byte) (s : State) : Outcome := .next (s.jumpIf s.flags.cF inc)

/-- 73H `JNB short-label` (R223). -/
def execJnb (inc : Byte) (s : State) : Outcome := .next (s.jumpIf (!s.flags.cF) inc)

/-- 74H `JE short-label` (R224). -/
def execJe (inc : Byte) (s : State) : Outcome := .next (s.jumpIf s.flags.zF inc)

/-- 75H `JNE short-label` (R225). -/
def execJne (inc : Byte) (s : State) : Outcome := .next (s.jumpIf (!s.flags.zF) inc)

/-- 76H `JBE short-label` (R226). -/
def execJbe (inc : Byte) (s : State) : Outcome := .next (s.jumpIf (s.flags.cF || s.flags.zF) inc)

/-- 77H `JNBE short-label` (R227). -/
def execJnbe (inc : Byte) (s : State) : Outcome := .next (s.jumpIf (!(s.flags.cF || s.flags.zF)) inc)

/-- 78H `JS short-label` (R228). -/
def execJs (inc : Byte) (s : State) : Outcome := .next (s.jumpIf s.flags.sF inc)

/-- 79H `JNS short-label` (R229). -/
def execJns (inc : Byte) (s : State) : Outcome := .next (s.jumpIf (!s.flags.sF) inc)

/-- 7AH `JP short-label` (R230). -/
def execJp (inc : Byte) (s : State) : Outcome := .next (s.jumpIf s.flags.pF inc)

/-- 7BH `JNP short-label` (R231). -/
def execJnp (inc : Byte) (s : State) : Outcome := .next (s.jumpIf (!s.flags.pF) inc)

/-- 7CH `JL short-label` (R232). -/
def execJl (inc : Byte) (s : State) : Outcome := .next (s.jumpIf (s.flags.sF ^^ s.flags.oF) inc)

/-- 7DH `JNL short-label` (R233). -/
def execJnl (inc : Byte) (s : State) : Outcome := .next (s.jumpIf (!(s.flags.sF ^^ s.flags.oF)) inc)

/-- 7EH `JLE short-label` (R234). -/
def execJle (inc : Byte) (s : State) : Outcome := .next (s.jumpIf ((s.flags.sF ^^ s.flags.oF) || s.flags.zF) inc)

/-- 7FH `JNLE short-label` (R235). -/
def execJnle (inc : Byte) (s : State) : Outcome := .next (s.jumpIf (!((s.flags.sF ^^ s.flags.oF) || s.flags.zF)) inc)

/-- 9AH `CALL far-proc`; `off` then `base` as stored (R208). -/
def execCallFar (off : Word) (base : Word) (s : State) : Outcome := .next (s.callFarTo base off)

/-- C2H `RET Iv` (intrasegment) (R211). -/
def execRetPop (n : Word) (s : State) : Outcome := .next ((s.drop16.addSp n).jumpNear s.top16)

/-- CAH `RET Iv` (intersegment) (R213). -/
def execRetfPop (n : Word) (s : State) : Outcome := .next (s.returnFar n)

/-- CDH `INT Ib` (R240). -/
def execIntIb (n : Byte) (s : State) : Outcome := .next (s.raiseInterrupt n)

/-- E0H `LOOPNE short-label` (R238). -/
def execLoopne (inc : Byte) (s : State) : Outcome := .next (s.countDown.jumpIf (s.cx - 1 != 0 && !s.flags.zF) inc)

/-- E1H `LOOPE short-label` (R237). -/
def execLoope (inc : Byte) (s : State) : Outcome := .next (s.countDown.jumpIf (s.cx - 1 != 0 && s.flags.zF) inc)

/-- E2H `LOOP short-label` (R236). -/
def execLoop (inc : Byte) (s : State) : Outcome := .next (s.countDown.jumpIf (s.cx - 1 != 0) inc)

/-- E3H `JCXZ short-label` (R239). -/
def execJcxz (inc : Byte) (s : State) : Outcome := .next (s.jumpIf (s.cx == 0) inc)

/-- E8H `CALL near-proc` (R206). -/
def execCallNear (inc : Word) (s : State) : Outcome := .next ((s.push16 s.ip).jumpNear (s.ip + inc))

/-- E9H `JMP near-label` (R214). -/
def execJmpNear (inc : Word) (s : State) : Outcome := .next (s.jumpNear (s.ip + inc))

/-- EAH `JMP far-label`; `off` then `base` as stored (R217). -/
def execJmpFar (off : Word) (base : Word) (s : State) : Outcome := .next (s.jumpFar base off)

/-- EBH `JMP short-label` (R215). -/
def execJmpShort (inc : Byte) (s : State) : Outcome := .next (s.jumpShort inc)

/-- FFH /2 `CALL Ev` (intrasegment, indirect) (R207). -/
def execCallEv (target : Ev) (s : State) : Outcome :=
  .next (((s.gapEv target).push16 s.ip).jumpNear (s.readEv target))

/-- FFH /3 `CALL MEM32` (intersegment, indirect) (R209). -/
def execCallMem32 (ptr : MemOp) (s : State) : Outcome :=
  .next (s.busGap.busGap.callFarTo (s.busGap.pointerBase ptr) (s.pointerOff ptr))

/-- FFH /4 `JMP Ev` (intrasegment, indirect) (R216). -/
def execJmpEv (target : Ev) (s : State) : Outcome := .next (s.jumpNear (s.readEv target))

/-- FFH /5 `JMP MEM32` (intersegment, indirect) (R218). -/
def execJmpMem32 (ptr : MemOp) (s : State) : Outcome :=
  .next (s.busGap.jumpFar (s.busGap.pointerBase ptr) (s.pointerOff ptr))

/-- C3H `RET` (intrasegment) (R210). -/
def execRet (s : State) : Outcome := .next (s.drop16.jumpNear s.top16)

/-- CBH `RET` (intersegment) (R212). -/
def execRetf (s : State) : Outcome := .next (s.returnFar 0)

/-- CCH `INT 3` (R241). -/
def execInt3 (s : State) : Outcome := .next (s.raiseInterrupt 3)

/-- CEH `INTO` (R242). -/
def execInto (s : State) : Outcome :=
  .next (if s.flags.oF then s.raiseInterrupt 4 else s)

/-- CFH `IRET` (R243). -/
def execIret (s : State) : Outcome := .next (s.returnFromInterrupt)

end Sys2Proof.Machine
end

