-- ==== Sys2Proof/Machine/Dispatch.lean ====
section
/-! DEFINITION. One arm per instruction: each is one direct call of that instruction's meaning. -/
namespace Sys2Proof.Machine

/-- The effect of an instruction, IP already behind it (spec/10_state.md R28; spec/60_exceptions.md R306 step 5). -/
def exec (i : Instr) (s : State) : Host.Outcome State Fault Refusal :=
  match i with
  | .addEbGb dst src => Sys2Proof.Machine.execAddEbGb dst src s
  | .addEvGv dst src => Sys2Proof.Machine.execAddEvGv dst src s
  | .addGbEb dst src => Sys2Proof.Machine.execAddGbEb dst src s
  | .addGvEv dst src => Sys2Proof.Machine.execAddGvEv dst src s
  | .addAlIb imm => Sys2Proof.Machine.execAddAlIb imm s
  | .addAxIv imm => Sys2Proof.Machine.execAddAxIv imm s
  | .orEbGb dst src => Sys2Proof.Machine.execOrEbGb dst src s
  | .orEvGv dst src => Sys2Proof.Machine.execOrEvGv dst src s
  | .orGbEb dst src => Sys2Proof.Machine.execOrGbEb dst src s
  | .orGvEv dst src => Sys2Proof.Machine.execOrGvEv dst src s
  | .orAlIb imm => Sys2Proof.Machine.execOrAlIb imm s
  | .orAxIv imm => Sys2Proof.Machine.execOrAxIv imm s
  | .adcEbGb dst src => Sys2Proof.Machine.execAdcEbGb dst src s
  | .adcEvGv dst src => Sys2Proof.Machine.execAdcEvGv dst src s
  | .adcGbEb dst src => Sys2Proof.Machine.execAdcGbEb dst src s
  | .adcGvEv dst src => Sys2Proof.Machine.execAdcGvEv dst src s
  | .adcAlIb imm => Sys2Proof.Machine.execAdcAlIb imm s
  | .adcAxIv imm => Sys2Proof.Machine.execAdcAxIv imm s
  | .sbbEbGb dst src => Sys2Proof.Machine.execSbbEbGb dst src s
  | .sbbEvGv dst src => Sys2Proof.Machine.execSbbEvGv dst src s
  | .sbbGbEb dst src => Sys2Proof.Machine.execSbbGbEb dst src s
  | .sbbGvEv dst src => Sys2Proof.Machine.execSbbGvEv dst src s
  | .sbbAlIb imm => Sys2Proof.Machine.execSbbAlIb imm s
  | .sbbAxIv imm => Sys2Proof.Machine.execSbbAxIv imm s
  | .andEbGb dst src => Sys2Proof.Machine.execAndEbGb dst src s
  | .andEvGv dst src => Sys2Proof.Machine.execAndEvGv dst src s
  | .andGbEb dst src => Sys2Proof.Machine.execAndGbEb dst src s
  | .andGvEv dst src => Sys2Proof.Machine.execAndGvEv dst src s
  | .andAlIb imm => Sys2Proof.Machine.execAndAlIb imm s
  | .andAxIv imm => Sys2Proof.Machine.execAndAxIv imm s
  | .subEbGb dst src => Sys2Proof.Machine.execSubEbGb dst src s
  | .subEvGv dst src => Sys2Proof.Machine.execSubEvGv dst src s
  | .subGbEb dst src => Sys2Proof.Machine.execSubGbEb dst src s
  | .subGvEv dst src => Sys2Proof.Machine.execSubGvEv dst src s
  | .subAlIb imm => Sys2Proof.Machine.execSubAlIb imm s
  | .subAxIv imm => Sys2Proof.Machine.execSubAxIv imm s
  | .xorEbGb dst src => Sys2Proof.Machine.execXorEbGb dst src s
  | .xorEvGv dst src => Sys2Proof.Machine.execXorEvGv dst src s
  | .xorGbEb dst src => Sys2Proof.Machine.execXorGbEb dst src s
  | .xorGvEv dst src => Sys2Proof.Machine.execXorGvEv dst src s
  | .xorAlIb imm => Sys2Proof.Machine.execXorAlIb imm s
  | .xorAxIv imm => Sys2Proof.Machine.execXorAxIv imm s
  | .cmpEbGb dst src => Sys2Proof.Machine.execCmpEbGb dst src s
  | .cmpEvGv dst src => Sys2Proof.Machine.execCmpEvGv dst src s
  | .cmpGbEb dst src => Sys2Proof.Machine.execCmpGbEb dst src s
  | .cmpGvEv dst src => Sys2Proof.Machine.execCmpGvEv dst src s
  | .cmpAlIb imm => Sys2Proof.Machine.execCmpAlIb imm s
  | .cmpAxIv imm => Sys2Proof.Machine.execCmpAxIv imm s
  | .incR16 r => Sys2Proof.Machine.execIncR16 r s
  | .decR16 r => Sys2Proof.Machine.execDecR16 r s
  | .pushR16 r => Sys2Proof.Machine.execPushR16 r s
  | .popR16 r => Sys2Proof.Machine.execPopR16 r s
  | .notUsed60 low => Sys2Proof.Machine.execNotUsed60 low s
  | .jo inc => Sys2Proof.Machine.execJo inc s
  | .jno inc => Sys2Proof.Machine.execJno inc s
  | .jb inc => Sys2Proof.Machine.execJb inc s
  | .jnb inc => Sys2Proof.Machine.execJnb inc s
  | .je inc => Sys2Proof.Machine.execJe inc s
  | .jne inc => Sys2Proof.Machine.execJne inc s
  | .jbe inc => Sys2Proof.Machine.execJbe inc s
  | .jnbe inc => Sys2Proof.Machine.execJnbe inc s
  | .js inc => Sys2Proof.Machine.execJs inc s
  | .jns inc => Sys2Proof.Machine.execJns inc s
  | .jp inc => Sys2Proof.Machine.execJp inc s
  | .jnp inc => Sys2Proof.Machine.execJnp inc s
  | .jl inc => Sys2Proof.Machine.execJl inc s
  | .jnl inc => Sys2Proof.Machine.execJnl inc s
  | .jle inc => Sys2Proof.Machine.execJle inc s
  | .jnle inc => Sys2Proof.Machine.execJnle inc s
  | .addEbIb dst imm => Sys2Proof.Machine.execAddEbIb dst imm s
  | .orEbIb dst imm => Sys2Proof.Machine.execOrEbIb dst imm s
  | .adcEbIb dst imm => Sys2Proof.Machine.execAdcEbIb dst imm s
  | .sbbEbIb dst imm => Sys2Proof.Machine.execSbbEbIb dst imm s
  | .andEbIb dst imm => Sys2Proof.Machine.execAndEbIb dst imm s
  | .subEbIb dst imm => Sys2Proof.Machine.execSubEbIb dst imm s
  | .xorEbIb dst imm => Sys2Proof.Machine.execXorEbIb dst imm s
  | .cmpEbIb dst imm => Sys2Proof.Machine.execCmpEbIb dst imm s
  | .addEvIv dst imm => Sys2Proof.Machine.execAddEvIv dst imm s
  | .orEvIv dst imm => Sys2Proof.Machine.execOrEvIv dst imm s
  | .adcEvIv dst imm => Sys2Proof.Machine.execAdcEvIv dst imm s
  | .sbbEvIv dst imm => Sys2Proof.Machine.execSbbEvIv dst imm s
  | .andEvIv dst imm => Sys2Proof.Machine.execAndEvIv dst imm s
  | .subEvIv dst imm => Sys2Proof.Machine.execSubEvIv dst imm s
  | .xorEvIv dst imm => Sys2Proof.Machine.execXorEvIv dst imm s
  | .cmpEvIv dst imm => Sys2Proof.Machine.execCmpEvIv dst imm s
  | .addEbIb82 dst imm => Sys2Proof.Machine.execAddEbIb82 dst imm s
  | .adcEbIb82 dst imm => Sys2Proof.Machine.execAdcEbIb82 dst imm s
  | .sbbEbIb82 dst imm => Sys2Proof.Machine.execSbbEbIb82 dst imm s
  | .subEbIb82 dst imm => Sys2Proof.Machine.execSubEbIb82 dst imm s
  | .cmpEbIb82 dst imm => Sys2Proof.Machine.execCmpEbIb82 dst imm s
  | .notUsed82 modrm => Sys2Proof.Machine.execNotUsed82 modrm s
  | .addEvIs dst imm => Sys2Proof.Machine.execAddEvIs dst imm s
  | .adcEvIs dst imm => Sys2Proof.Machine.execAdcEvIs dst imm s
  | .sbbEvIs dst imm => Sys2Proof.Machine.execSbbEvIs dst imm s
  | .subEvIs dst imm => Sys2Proof.Machine.execSubEvIs dst imm s
  | .cmpEvIs dst imm => Sys2Proof.Machine.execCmpEvIs dst imm s
  | .notUsed83 modrm => Sys2Proof.Machine.execNotUsed83 modrm s
  | .testEbGb a b => Sys2Proof.Machine.execTestEbGb a b s
  | .testEvGv a b => Sys2Proof.Machine.execTestEvGv a b s
  | .xchgGbEb r rm => Sys2Proof.Machine.execXchgGbEb r rm s
  | .xchgGvEv r rm => Sys2Proof.Machine.execXchgGvEv r rm s
  | .movEbGb dst src => Sys2Proof.Machine.execMovEbGb dst src s
  | .movEvGv dst src => Sys2Proof.Machine.execMovEvGv dst src s
  | .movGbEb dst src => Sys2Proof.Machine.execMovGbEb dst src s
  | .movGvEv dst src => Sys2Proof.Machine.execMovGvEv dst src s
  | .movEvSeg dst src => Sys2Proof.Machine.execMovEvSeg dst src s
  | .notUsed8C modrm => Sys2Proof.Machine.execNotUsed8C modrm s
  | .lea dst src => Sys2Proof.Machine.execLea dst src s
  | .refusedLea dst src => Sys2Proof.Machine.execRefusedLea dst src s
  | .movEsEv src => Sys2Proof.Machine.execMovEsEv src s
  | .refusedMovCs modrm => Sys2Proof.Machine.execRefusedMovCs modrm s
  | .movSsEv src => Sys2Proof.Machine.execMovSsEv src s
  | .movDsEv src => Sys2Proof.Machine.execMovDsEv src s
  | .notUsed8E modrm => Sys2Proof.Machine.execNotUsed8E modrm s
  | .popEv dst => Sys2Proof.Machine.execPopEv dst s
  | .notUsed8F modrm => Sys2Proof.Machine.execNotUsed8F modrm s
  | .callFar off base => Sys2Proof.Machine.execCallFar off base s
  | .movAlMem off => Sys2Proof.Machine.execMovAlMem off s
  | .movAxMem off => Sys2Proof.Machine.execMovAxMem off s
  | .movMemAl off => Sys2Proof.Machine.execMovMemAl off s
  | .movMemAx off => Sys2Proof.Machine.execMovMemAx off s
  | .testAlIb imm => Sys2Proof.Machine.execTestAlIb imm s
  | .testAxIv imm => Sys2Proof.Machine.execTestAxIv imm s
  | .movR8Ib r imm => Sys2Proof.Machine.execMovR8Ib r imm s
  | .movR16Iv r imm => Sys2Proof.Machine.execMovR16Iv r imm s
  | .notUsedC0 low => Sys2Proof.Machine.execNotUsedC0 low s
  | .retPop n => Sys2Proof.Machine.execRetPop n s
  | .les dst src => Sys2Proof.Machine.execLes dst src s
  | .refusedLes dst src => Sys2Proof.Machine.execRefusedLes dst src s
  | .lds dst src => Sys2Proof.Machine.execLds dst src s
  | .refusedLds dst src => Sys2Proof.Machine.execRefusedLds dst src s
  | .movEbIb dst imm => Sys2Proof.Machine.execMovEbIb dst imm s
  | .notUsedC6 modrm => Sys2Proof.Machine.execNotUsedC6 modrm s
  | .movEvIv dst imm => Sys2Proof.Machine.execMovEvIv dst imm s
  | .notUsedC7 modrm => Sys2Proof.Machine.execNotUsedC7 modrm s
  | .notUsedC8 low => Sys2Proof.Machine.execNotUsedC8 low s
  | .retfPop n => Sys2Proof.Machine.execRetfPop n s
  | .intIb n => Sys2Proof.Machine.execIntIb n s
  | .rolEb1 dst => Sys2Proof.Machine.execRolEb1 dst s
  | .rorEb1 dst => Sys2Proof.Machine.execRorEb1 dst s
  | .rclEb1 dst => Sys2Proof.Machine.execRclEb1 dst s
  | .rcrEb1 dst => Sys2Proof.Machine.execRcrEb1 dst s
  | .shlEb1 dst => Sys2Proof.Machine.execShlEb1 dst s
  | .shrEb1 dst => Sys2Proof.Machine.execShrEb1 dst s
  | .sarEb1 dst => Sys2Proof.Machine.execSarEb1 dst s
  | .notUsedD0 modrm => Sys2Proof.Machine.execNotUsedD0 modrm s
  | .rolEv1 dst => Sys2Proof.Machine.execRolEv1 dst s
  | .rorEv1 dst => Sys2Proof.Machine.execRorEv1 dst s
  | .rclEv1 dst => Sys2Proof.Machine.execRclEv1 dst s
  | .rcrEv1 dst => Sys2Proof.Machine.execRcrEv1 dst s
  | .shlEv1 dst => Sys2Proof.Machine.execShlEv1 dst s
  | .shrEv1 dst => Sys2Proof.Machine.execShrEv1 dst s
  | .sarEv1 dst => Sys2Proof.Machine.execSarEv1 dst s
  | .notUsedD1 modrm => Sys2Proof.Machine.execNotUsedD1 modrm s
  | .rolEbCl dst => Sys2Proof.Machine.execRolEbCl dst s
  | .rorEbCl dst => Sys2Proof.Machine.execRorEbCl dst s
  | .rclEbCl dst => Sys2Proof.Machine.execRclEbCl dst s
  | .rcrEbCl dst => Sys2Proof.Machine.execRcrEbCl dst s
  | .shlEbCl dst => Sys2Proof.Machine.execShlEbCl dst s
  | .shrEbCl dst => Sys2Proof.Machine.execShrEbCl dst s
  | .sarEbCl dst => Sys2Proof.Machine.execSarEbCl dst s
  | .notUsedD2 modrm => Sys2Proof.Machine.execNotUsedD2 modrm s
  | .rolEvCl dst => Sys2Proof.Machine.execRolEvCl dst s
  | .rorEvCl dst => Sys2Proof.Machine.execRorEvCl dst s
  | .rclEvCl dst => Sys2Proof.Machine.execRclEvCl dst s
  | .rcrEvCl dst => Sys2Proof.Machine.execRcrEvCl dst s
  | .shlEvCl dst => Sys2Proof.Machine.execShlEvCl dst s
  | .shrEvCl dst => Sys2Proof.Machine.execShrEvCl dst s
  | .sarEvCl dst => Sys2Proof.Machine.execSarEvCl dst s
  | .notUsedD3 modrm => Sys2Proof.Machine.execNotUsedD3 modrm s
  | .refusedAam b => Sys2Proof.Machine.execRefusedAam b s
  | .refusedAad b => Sys2Proof.Machine.execRefusedAad b s
  | .esc x y rm => Sys2Proof.Machine.execEsc x y rm s
  | .loopne inc => Sys2Proof.Machine.execLoopne inc s
  | .loope inc => Sys2Proof.Machine.execLoope inc s
  | .loop inc => Sys2Proof.Machine.execLoop inc s
  | .jcxz inc => Sys2Proof.Machine.execJcxz inc s
  | .inAlIb port => Sys2Proof.Machine.execInAlIb port s
  | .inAxIb port => Sys2Proof.Machine.execInAxIb port s
  | .outIbAl port => Sys2Proof.Machine.execOutIbAl port s
  | .outIbAx port => Sys2Proof.Machine.execOutIbAx port s
  | .callNear inc => Sys2Proof.Machine.execCallNear inc s
  | .jmpNear inc => Sys2Proof.Machine.execJmpNear inc s
  | .jmpFar off base => Sys2Proof.Machine.execJmpFar off base s
  | .jmpShort inc => Sys2Proof.Machine.execJmpShort inc s
  | .testEbIb a imm => Sys2Proof.Machine.execTestEbIb a imm s
  | .notUsedF6 modrm => Sys2Proof.Machine.execNotUsedF6 modrm s
  | .notEb dst => Sys2Proof.Machine.execNotEb dst s
  | .negEb dst => Sys2Proof.Machine.execNegEb dst s
  | .mulEb src => Sys2Proof.Machine.execMulEb src s
  | .imulEb src => Sys2Proof.Machine.execImulEb src s
  | .divEb src => Sys2Proof.Machine.execDivEb src s
  | .idivEb src => Sys2Proof.Machine.execIdivEb src s
  | .testEvIv a imm => Sys2Proof.Machine.execTestEvIv a imm s
  | .notUsedF7 modrm => Sys2Proof.Machine.execNotUsedF7 modrm s
  | .notEv dst => Sys2Proof.Machine.execNotEv dst s
  | .negEv dst => Sys2Proof.Machine.execNegEv dst s
  | .mulEv src => Sys2Proof.Machine.execMulEv src s
  | .imulEv src => Sys2Proof.Machine.execImulEv src s
  | .divEv src => Sys2Proof.Machine.execDivEv src s
  | .idivEv src => Sys2Proof.Machine.execIdivEv src s
  | .incEb dst => Sys2Proof.Machine.execIncEb dst s
  | .decEb dst => Sys2Proof.Machine.execDecEb dst s
  | .notUsedFE modrm => Sys2Proof.Machine.execNotUsedFE modrm s
  | .incEv dst => Sys2Proof.Machine.execIncEv dst s
  | .decEv dst => Sys2Proof.Machine.execDecEv dst s
  | .callEv target => Sys2Proof.Machine.execCallEv target s
  | .callMem32 ptr => Sys2Proof.Machine.execCallMem32 ptr s
  | .refusedCallMem32 r => Sys2Proof.Machine.execRefusedCallMem32 r s
  | .jmpEv target => Sys2Proof.Machine.execJmpEv target s
  | .jmpMem32 ptr => Sys2Proof.Machine.execJmpMem32 ptr s
  | .refusedJmpMem32 r => Sys2Proof.Machine.execRefusedJmpMem32 r s
  | .pushEv src => Sys2Proof.Machine.execPushEv src s
  | .notUsedFF modrm => Sys2Proof.Machine.execNotUsedFF modrm s
  | .pushEs => Sys2Proof.Machine.execPushEs s
  | .popEs => Sys2Proof.Machine.execPopEs s
  | .pushCs => Sys2Proof.Machine.execPushCs s
  | .notUsed0F => Sys2Proof.Machine.execNotUsed0F s
  | .pushSs => Sys2Proof.Machine.execPushSs s
  | .popSs => Sys2Proof.Machine.execPopSs s
  | .pushDs => Sys2Proof.Machine.execPushDs s
  | .popDs => Sys2Proof.Machine.execPopDs s
  | .segEs => Sys2Proof.Machine.execSegEs s
  | .daa => Sys2Proof.Machine.execDaa s
  | .segCs => Sys2Proof.Machine.execSegCs s
  | .das => Sys2Proof.Machine.execDas s
  | .segSs => Sys2Proof.Machine.execSegSs s
  | .aaa => Sys2Proof.Machine.execAaa s
  | .segDs => Sys2Proof.Machine.execSegDs s
  | .aas => Sys2Proof.Machine.execAas s
  | .nop => Sys2Proof.Machine.execNop s
  | .xchgAxCx => Sys2Proof.Machine.execXchgAxCx s
  | .xchgAxDx => Sys2Proof.Machine.execXchgAxDx s
  | .xchgAxBx => Sys2Proof.Machine.execXchgAxBx s
  | .xchgAxSp => Sys2Proof.Machine.execXchgAxSp s
  | .xchgAxBp => Sys2Proof.Machine.execXchgAxBp s
  | .xchgAxSi => Sys2Proof.Machine.execXchgAxSi s
  | .xchgAxDi => Sys2Proof.Machine.execXchgAxDi s
  | .cbw => Sys2Proof.Machine.execCbw s
  | .cwd => Sys2Proof.Machine.execCwd s
  | .wait => Sys2Proof.Machine.execWait s
  | .pushf => Sys2Proof.Machine.execPushf s
  | .popf => Sys2Proof.Machine.execPopf s
  | .sahf => Sys2Proof.Machine.execSahf s
  | .lahf => Sys2Proof.Machine.execLahf s
  | .movsb => Sys2Proof.Machine.execMovsb s
  | .movsw => Sys2Proof.Machine.execMovsw s
  | .cmpsb => Sys2Proof.Machine.execCmpsb s
  | .cmpsw => Sys2Proof.Machine.execCmpsw s
  | .stosb => Sys2Proof.Machine.execStosb s
  | .stosw => Sys2Proof.Machine.execStosw s
  | .lodsb => Sys2Proof.Machine.execLodsb s
  | .lodsw => Sys2Proof.Machine.execLodsw s
  | .scasb => Sys2Proof.Machine.execScasb s
  | .scasw => Sys2Proof.Machine.execScasw s
  | .ret => Sys2Proof.Machine.execRet s
  | .retf => Sys2Proof.Machine.execRetf s
  | .int3 => Sys2Proof.Machine.execInt3 s
  | .into => Sys2Proof.Machine.execInto s
  | .iret => Sys2Proof.Machine.execIret s
  | .aam => Sys2Proof.Machine.execAam s
  | .aad => Sys2Proof.Machine.execAad s
  | .notUsedD6 => Sys2Proof.Machine.execNotUsedD6 s
  | .xlat => Sys2Proof.Machine.execXlat s
  | .inAlDx => Sys2Proof.Machine.execInAlDx s
  | .inAxDx => Sys2Proof.Machine.execInAxDx s
  | .outDxAl => Sys2Proof.Machine.execOutDxAl s
  | .outDxAx => Sys2Proof.Machine.execOutDxAx s
  | .lock => Sys2Proof.Machine.execLock s
  | .notUsedF1 => Sys2Proof.Machine.execNotUsedF1 s
  | .repne => Sys2Proof.Machine.execRepne s
  | .rep => Sys2Proof.Machine.execRep s
  | .hlt => Sys2Proof.Machine.execHlt s
  | .cmc => Sys2Proof.Machine.execCmc s
  | .clc => Sys2Proof.Machine.execClc s
  | .stc => Sys2Proof.Machine.execStc s
  | .cli => Sys2Proof.Machine.execCli s
  | .sti => Sys2Proof.Machine.execSti s
  | .cld => Sys2Proof.Machine.execCld s
  | .std => Sys2Proof.Machine.execStd s

end Sys2Proof.Machine
end

