-- ==== Sys2Proof/Machine/Cycle.lean ====
section
/-! DEFINITION. The step in its parts: fetching, the loop over prefixes, the end of an instruction, reset and the idle
states (spec/60_exceptions.md R306; spec/30_encoding.md R82, R87; spec/70_reset_and_hazards.md R310, R312). -/
namespace Sys2Proof.Machine

/-! ## Fetching -/

/-- The instruction byte at distance `i` from IP: the queue's copy where it has one, else memory (R82, R58). -/
def State.fetchByte (s : State) (i : Nat) : Byte :=
  match s.queue[i]?.join with
  | some b => b
  | none => s.read8 s.cs (s.ip + BitVec.ofNat 16 i)

/-- The six bytes from IP on, as many as the longest instruction has (R70). -/
def State.fetchBytes (s : State) : List Byte :=
  [s.fetchByte 0, s.fetchByte 1, s.fetchByte 2, s.fetchByte 3, s.fetchByte 4, s.fetchByte 5]

/-- IP moved over the `n` bytes that are executed, modulo 65536, and the queue with it, once they have been read
(spec/10_state.md R28). -/
def State.advance (s : State) (n : Nat) : State :=
  { s.prefetch n with
    ip := s.ip + BitVec.ofNat 16 n
    queue := s.queue.drop n
    prefetched := (s.prefetch n).prefetched - n }

/-! ## Running one instruction -/

/-- The prefix bytes (R87 step 1). -/
def isPrefixByte (i : Instr) : Bool :=
  match i with
  | .segEs | .segCs | .segSs | .segDs | .lock | .repne | .rep => true
  | _ => false

/-- What R306 step 3 remembers when an instruction begins. -/
def State.begin (s : State) : State :=
  { s with cur := { Progress.idle with ip0 := s.ip, ipPrefix := s.ip, tf0 := s.flags.tF } }

/-- Prefixes and the instruction they precede (R87). The first argument bounds the prefixes by the size of the code
segment (R107): if it runs out, every byte of the segment is a prefix, and the instruction never completes
(spec/93_implementation_defined.md U10); IP is then where it was and the next step begins again. -/
def State.runInstr : Nat → State → Outcome
  | 0, s => .next { s with cur := { s.cur with cut := true } }
  | n + 1, s =>
    match decode s.fetchBytes with
    | .truncated => .fault .fetchTruncated
    | .instr i rest =>
      match exec i (s.advance (6 - rest.length)) with
      | .next t => if isPrefixByte i then State.runInstr n t else .next t
      | .fault r => .fault r
      | .refused r => .refused r

/-- The lock of the instruction that ends (R59, R262): it goes on while a locked HLT or WAIT idles
(spec/45_processor_control.md R258) and while prefixes never end. -/
def State.lockAfter (s : State) : Bool := s.lock && (s.run != .running || (s.cur.cut && !s.cur.jumped))

/-- An ordinary end of an instruction (R279, R306 step 7): nothing is sampled if RESET is asked for, since reset comes
first (spec/70_reset_and_hazards.md R310). -/
def State.sampleEnd (s : State) : State :=
  if s.resetAsked then s else s.sampleAfterHold s.cur.tf0 s.cur.swSeq

/-- The end of an instruction begun in `before` (R306 steps 6 and 7): the queue is discarded or kept, the lock ends, and
unless the instruction holds interrupts off or was cut short the outside is looked at and interrupts are sampled. -/
def State.finish (t before : State) : State :=
  let u := if t.cur.jumped then { t with queue := [], prefetched := 0 } else t.keepPrefetched before
  let v := u.setLock u.lockAfter
  let w :=
    if v.cur.cut then v
    else if v.inhibitInt then { v with inhibitInt := false }
    else v.hear.sampleEnd
  { w with cur := .idle }

/-- One instruction from the run state `running`. -/
def State.runStep (s : State) : Outcome :=
  match s.begin.runInstr 65536 with
  | .next t => .next (t.finish s)
  | .fault r => .fault r
  | .refused r => .refused r

/-! ## Idle states -/

/-- A step while halted (spec/45_processor_control.md R258): NMI, then INTR with IF = 1; else nothing. -/
def State.idleHalt (s : State) : State := { s.sampleAfterHold false false with cur := .idle }

/-- TEST* is low for a WAIT that waits (R259): it ends, its lock with it, and interrupts and its trap are sampled. -/
def State.endWait (s : State) (next : Word) : State :=
  { s.setLock false with run := .running, ip := next }.sampleAfterHold s.flags.tF false

/-- A step while waiting (R259): TEST* first; then NMI and INTR. -/
def State.idleWait (s : State) (next : Word) : State :=
  { (if s.pins.testLow then s.endWait next else s.sampleAfterHold false false) with cur := .idle }

/-- A step while another master has the bus: no bus cycle, so no instruction and no interrupt, but a WAIT that waits
still examines TEST* (R259), unless it has been left for an interrupt that waits for the bus (log 30). -/
def State.idleHeld (s : State) : State :=
  match s.run, s.unsampled with
  | .waiting next, none => if s.pins.testLow then s.endWait next else s
  | _, _ => s

/-! ## Reset -/

/-- RESET is low again: the state of R312. The general registers are unspecified (`reset_regs`; log 4); memory, the
ports and the platform are untouched. An NMI edge that has come since RESET went low is pending, to be taken like any
other (R312, log 28). Every bus request that is present comes before the first fetch (R312). -/
def State.leaveReset (s : State) : State :=
  { s with
    ax := Config.resetReg s.drawn 0
    cx := Config.resetReg s.drawn 1
    dx := Config.resetReg s.drawn 2
    bx := Config.resetReg s.drawn 3
    sp := Config.resetReg s.drawn 4
    bp := Config.resetReg s.drawn 5
    si := Config.resetReg s.drawn 6
    di := Config.resetReg s.drawn 7
    es := 0
    cs := 0xFFFF
    ss := 0
    ds := 0
    ip := 0
    flags := .clear
    inhibitInt := false
    run := .running
    busReleased := none
    unsampled := none
    lock := false
    beforeFetch := s.busRequests
    queue := []
    prefetched := 0
    cur := .idle
    drawn := s.drawn + 1 }

/-! ## The step -/

/-- One step (R306), after a look at the outside: reset first; then a bus hold (R279), unless LOCK is in force (R59), in
which nothing is executed and only TEST* is examined (R259, log 30); then a sampling that the hold put off; else by the
run state. -/
def State.cycle (s : State) : Outcome :=
  let t := s.hear
  if t.resetAsked then .next t.enterReset
  else if t.run = .inReset then .next t.leaveReset
  else
    match t.heldBy with
    | some m => .next (t.release m).idleHeld
    | none =>
      let u := t.regain
      match u.unsampled with
      | some w => .next (u.samplePutOff w)
      | none =>
        match u.run with
        | .halted => .next u.idleHalt
        | .waiting next => .next (u.idleWait next)
        | .running | .inReset => u.runStep

/-! ## Placing an instruction -/

/-- Bytes put into memory from offset `i` after CS:IP on, whatever the memory map has there: they are what a read finds.
-/
def State.placeBytes (s : State) : Nat → List Byte → State
  | _, [] => s
  | i, b :: bs =>
    { s with mem := Memory.write s.mem (phys s.cs (s.ip + BitVec.ofNat 16 i)) b }.placeBytes (i + 1) bs

end Sys2Proof.Machine
end

