-- ==== Sys2Proof/Machine/Step.lean ====
section
/-! DEFINITION. The machine's step (spec/60_exceptions.md R306), and the placing of one instruction where it fetches. -/
namespace Sys2Proof.Machine

/-- One step of the machine. -/
def step (s : State) : Host.Outcome State Fault Refusal := s.cycle

/-- `s` with a table row's instruction in the six bytes at CS:IP, ready to run: nothing stale in the queue, RESET low,
no bus request, the CPU running and the platform silent until the next look (logs 6 and 17). -/
def State.withFetchWord (s : State) (nbits w : Nat) : State :=
  { s.placeBytes 0 (tableBytes nbits w) with
    queue := []
    prefetched := 0
    run := .running
    unsampled := none
    beforeFetch := []
    outside := []
    masters := []
    resetSeen := false
    pins := { s.pins with reset := false, hold := false, rq0 := false, rq1 := false } }

end Sys2Proof.Machine
end

