-- ==== Sys2Proof/Safety.lean ====
section
/-! DEFINITION. What counts as a good state and a good effect, in the terms the statements use: the machine's invariant,
what an instruction leaves alone, and the flag rules of spec/10_state.md (R16 to R21) said without the model's own flag
functions. -/
namespace Sys2Proof.Machine

/-! ## States -/

/-- No other bus master writes between the bus cycles of this CPU: LOCK is in force or no master has anything to write
(spec/20_memory.md R59, R62). -/
def State.undisturbed (s : State) : Prop := s.lock = true ∨ s.masters = []

/-- The platform does nothing at the pins and no other master has anything to write. -/
def State.quiet (s : State) : Prop := s.outside = [] ∧ s.masters = []

/-- No external request and no trap is due: no NMI, INTR low or masked, and TF was 0 when the instruction began
(spec/60_exceptions.md R287). -/
def State.unrequested (s : State) : Prop :=
  s.nmiPending = false ∧ (s.pins.intrLine = false ∨ s.flags.iF = false) ∧ s.cur.tf0 = false

/-- No other master asks for the bus, or LOCK keeps it (R62, R59), and RESET is not asked for. -/
def State.busFree (s : State) : Prop := s.resetAsked = false ∧ (s.busRequest = none ∨ s.lock = true)

/-- The CPU has the bus, no sampling point waits for it (R62; spec/60_exceptions.md R279), and it is not kept from its
first fetch after RESET (spec/70_reset_and_hazards.md R312). -/
def State.settled (s : State) : Prop := s.busReleased = none ∧ s.unsampled = none ∧ s.beforeFetch = []

/-- The invariant of the machine between steps: memory is in canonical form, no instruction is in progress, nothing
holds off interrupts, the queue holds, and the BIU has read, no more bytes than it has room for (R33), the bus is
released only to the master that is to have it (R62), a sampling is put off only to a bus request (R279), nothing is in
the queue while masters that still ask for the bus come before the first fetch after RESET (R312), in reset the CPU
drives HLDA and LOCK* inactive (R315) and nothing waits for the bus, and while RESET is high neither an NMI nor a
request pulse is remembered (R312). -/
def State.Inv (s : State) : Prop :=
  Memory.wf s.mem ∧ s.cur = .idle ∧ s.inhibitInt = false ∧ s.queue.length ≤ s.queueSize ∧
    s.prefetched ≤ s.queueSize ∧
    (s.busReleased ≠ none → s.busReleased = s.busRequest) ∧
    (s.unsampled ≠ none → s.lock = false ∧ s.busRequest ≠ none) ∧
    (s.beforeFetch ≠ [] → s.queue = [] ∧ s.prefetched = 0 ∧ s.lock = false) ∧ (∀ m ∈ s.beforeFetch, m ∈ s.busRequests) ∧
    (s.run = .inReset → s.busReleased = none ∧ s.lock = false ∧ s.unsampled = none ∧ s.beforeFetch = []) ∧
    (s.pins.reset = true → s.nmiPending = false ∧ s.pins.rq0 = false ∧ s.pins.rq1 = false)

/-! ## What is left alone -/

/-- Every 16-bit general register outside the list is unchanged. -/
def State.regsKept (s t : State) (except : List Reg16) : Prop := ∀ r, r ∉ except → t.reg16 r = s.reg16 r

/-- Every 8-bit register outside the list is unchanged, and so are SP, BP, SI and DI. -/
def State.halvesKept (s t : State) (except : List Reg8) : Prop :=
  (∀ r, r ∉ except → t.reg8 r = s.reg8 r) ∧ t.sp = s.sp ∧ t.bp = s.bp ∧ t.si = s.si ∧ t.di = s.di

/-- Every segment register outside the list is unchanged. -/
def State.segsKept (s t : State) (except : List SReg) : Prop := ∀ r, r ∉ except → t.sreg r = s.sreg r

/-- The addresses to which a bus cycle writes (spec/20_memory.md R54); none for one that is no write to memory. -/
def HostCall.writtenTo (c : HostCall) : List Nat :=
  match c with
  | .memWrite8 a _ => [a]
  | .memWrite16 a _ => [a, a + 1]
  | _ => []

/-- The addresses from which a bus cycle reads instruction bytes (spec/20_memory.md R57); none for one that is no fetch. -/
def HostCall.fetchedFrom (c : HostCall) : List Nat :=
  match c with
  | .fetch8 a => [a]
  | .fetch16 a => [a, a + 1]
  | _ => []

/-- Every byte of memory that is not both in `stored` and RAM is unchanged, and the host has heard of nothing but bus
cycles that write to a device in `stored` (spec/20_memory.md R63). -/
def State.memKept (s t : State) (stored : Nat → Prop) : Prop :=
  (∀ a, ¬(stored a ∧ s.params.kindAt a = .ram) → Memory.read t.mem a = Memory.read s.mem a) ∧
    ∃ heard : List HostCall, t.trace = heard ++ s.trace ∧
      ∀ c ∈ heard, c.writtenTo ≠ [] ∧ ∀ a ∈ c.writtenTo, stored a ∧ s.params.kindAt a = .device

/-- All bytes of `stored` are RAM, so that what is stored there stays (R63). -/
def State.lands (s : State) (stored : Nat → Prop) : Prop := ∀ a, stored a → s.params.kindAt a = .ram

/-- What only the pins, the interrupt mechanism and the host change is unchanged. -/
def State.systemKept (s t : State) : Prop :=
  t.nmiPending = s.nmiPending ∧ t.busReleased = s.busReleased ∧ t.unsampled = s.unsampled ∧ t.lock = s.lock ∧
    t.beforeFetch = s.beforeFetch ∧ t.pins = s.pins ∧ t.resetSeen = s.resetSeen ∧ t.outside = s.outside ∧
    t.masters = s.masters ∧ t.params = s.params

/-- As `systemKept`, with the run state, the inhibit bit and the ports unchanged too. Of the host's trace `memKept`
speaks. -/
def State.othersKept (s t : State) : Prop :=
  State.systemKept s t ∧ t.run = s.run ∧ t.inhibitInt = s.inhibitInt ∧ t.ioIn = s.ioIn

/-- As `othersKept`, with the host's trace unchanged too. -/
def State.restKept (s t : State) : Prop := State.othersKept s t ∧ t.trace = s.trace

/-- Control goes on in sequence: IP stays behind the instruction, the queue is kept, and nothing is noted of the
instruction in progress that would drop a trap, a sampling point or a prefetched byte. -/
def State.goesOn (s t : State) : Prop :=
  t.ip = s.ip ∧ t.queue = s.queue ∧ t.prefetched = s.prefetched ∧ t.cur = s.cur

/-- Control is transferred: the queue is discarded, it is noted that it was, so that no byte prefetched before is kept at
the end of the instruction (spec/20_memory.md R57), and nothing else is noted. -/
def State.transfers (s t : State) : Prop :=
  t.queue = [] ∧ t.prefetched = 0 ∧ t.cur = { s.cur with jumped := true }

/-- The two bytes of the word at `base:off` (spec/20_memory.md R47). -/
def wordBytes (base off : Word) (a : Nat) : Prop := a = phys base off ∨ a = phys base (off + 1)

/-- The byte an 8-bit operand is stored to: none for a register. -/
def State.storesByte (s : State) (e : Eb) (a : Nat) : Prop :=
  match e with
  | .reg _ => False
  | .mem m => a = phys (s.segOf m) (s.ea m)

/-- The bytes a 16-bit operand is stored to: none for a register. -/
def State.storesWord (s : State) (e : Ev) (a : Nat) : Prop :=
  match e with
  | .reg _ => False
  | .mem m => wordBytes (s.segOf m) (s.ea m) a

/-- The register an 8-bit operand names, if it names one. -/
def ebRegs (e : Eb) : List Reg8 :=
  match e with
  | .reg r => [r]
  | .mem _ => []

/-- The register a 16-bit operand names, if it names one. -/
def evRegs (e : Ev) : List Reg16 :=
  match e with
  | .reg r => [r]
  | .mem _ => []

/-! ## The flags word -/

/-- A word holds the nine flags at their places (spec/10_state.md R23). -/
def carriesFlags (w : Word) (f : Flags) : Prop :=
  f.cF = w.getLsbD 0 ∧ f.pF = w.getLsbD 2 ∧ f.aF = w.getLsbD 4 ∧ f.zF = w.getLsbD 6 ∧ f.sF = w.getLsbD 7 ∧
    f.tF = w.getLsbD 8 ∧ f.iF = w.getLsbD 9 ∧ f.dF = w.getLsbD 10 ∧ f.oF = w.getLsbD 11

/-- A word is the image of the flags: the nine at their places, bits 15 to 12 and 1 set, bits 5 and 3 clear (R23). -/
def isFlagsImage (w : Word) (f : Flags) : Prop :=
  carriesFlags w f ∧ w.getLsbD 15 = true ∧ w.getLsbD 14 = true ∧ w.getLsbD 13 = true ∧ w.getLsbD 12 = true ∧
    w.getLsbD 1 = true ∧ w.getLsbD 5 = false ∧ w.getLsbD 3 = false

/-! ## Whole effects -/

/-- The instruction completes, leaves `v` in the 16-bit operand, unless that is memory that is not RAM, and flags with
`P`, and changes nothing else. -/
def State.givesWord (s : State) (i : Instr) (dst : Ev) (v : Word) (P : Flags → Prop) : Prop :=
  ∃ t, exec i s = .next t ∧ (s.lands (s.storesWord dst) → t.readEv dst = v) ∧ P t.flags ∧
    State.regsKept s t (evRegs dst) ∧ State.segsKept s t [] ∧ State.memKept s t (s.storesWord dst) ∧
    State.othersKept s t ∧ State.goesOn s t

/-- The instruction completes, leaves `v` in the 8-bit operand, unless that is memory that is not RAM, and flags with
`P`, and changes nothing else. -/
def State.givesByte (s : State) (i : Instr) (dst : Eb) (v : Byte) (P : Flags → Prop) : Prop :=
  ∃ t, exec i s = .next t ∧ (s.lands (s.storesByte dst) → t.readEb dst = v) ∧ P t.flags ∧
    State.halvesKept s t (ebRegs dst) ∧ State.segsKept s t [] ∧ State.memKept s t (s.storesByte dst) ∧
    State.othersKept s t ∧ State.goesOn s t

/-- The instruction completes, leaves flags with `P`, and changes nothing else. -/
def State.givesFlags (s : State) (i : Instr) (P : Flags → Prop) : Prop :=
  ∃ t, exec i s = .next t ∧ P t.flags ∧ State.regsKept s t [] ∧ State.segsKept s t [] ∧
    State.memKept s t (fun _ => False) ∧ State.restKept s t ∧ State.goesOn s t

/-- `t` is the outcome in `s` of the interrupt sequence of type `n` with return offset `ret` (spec/60_exceptions.md
R280): FLAGS, CS and `ret` on the stack, as far as that is RAM, IF and TF cleared, CS:IP from the vector, the queue
empty, the CPU running, and the host has heard of nothing but what a stack in a device makes it hear. -/
def State.entered (s t : State) (n : Byte) (ret : Word) (flags : Flags) : Prop :=
  t.ip = s.readPhys16 (4 * n.toNat) ∧ t.cs = s.readPhys16 (4 * n.toNat + 2) ∧ t.sp = s.sp - 6 ∧
    (s.lands (wordBytes s.ss (s.sp - 2)) → isFlagsImage (t.read16 s.ss (s.sp - 2)) flags) ∧
    (s.lands (wordBytes s.ss (s.sp - 4)) → t.read16 s.ss (s.sp - 4) = s.cs) ∧
    (s.lands (wordBytes s.ss (s.sp - 6)) → t.read16 s.ss (s.sp - 6) = ret) ∧
    t.flags = { flags with iF := false, tF := false } ∧ t.queue = [] ∧ t.prefetched = 0 ∧
    t.run = .running ∧
    State.regsKept s t [.sp] ∧ State.segsKept s t [.cs] ∧
    State.memKept s t (fun a => wordBytes s.ss (s.sp - 2) a ∨ wordBytes s.ss (s.sp - 4) a ∨
      wordBytes s.ss (s.sp - 6) a)

/-- `t` is `s` with control transferred to `base:off`: the queue discarded, everything else that software or the platform
sees unchanged (spec/44_control_transfer.md R205). -/
def State.wentTo (s t : State) (base off : Word) : Prop :=
  t.cs = base ∧ t.ip = off ∧ State.transfers s t ∧ t.flags = s.flags ∧ t.mem = s.mem ∧ State.regsKept s t [] ∧
    State.segsKept s t [.cs] ∧ State.restKept s t

/-- `t` is `s` with the words pushed in order: each at the next lower place of the stack, if that is RAM, SP lowered by
2 for each, every other byte of memory unchanged (spec/20_memory.md R52). -/
def State.pushed (s t : State) (words : List Word) : Prop :=
  t.sp = s.sp - BitVec.ofNat 16 (2 * words.length) ∧
    (∀ (n : Nat) (v : Word), words[n]? = some v →
      s.lands (wordBytes s.ss (s.sp - BitVec.ofNat 16 (2 * (n + 1)))) →
        t.read16 s.ss (s.sp - BitVec.ofNat 16 (2 * (n + 1))) = v) ∧
    State.memKept s t (fun a => ∃ n, n < words.length ∧ wordBytes s.ss (s.sp - BitVec.ofNat 16 (2 * (n + 1))) a)

/-- `s` after the INTA pair that gives type `n` (R281): the host has seen it, with LOCK* active from its beginning, or
from before it, to its end where the pin exists; the lock has ended. -/
def State.afterInta (s : State) (n : Byte) : State :=
  { s with
    lock := false
    trace := (match s.params.busMode with
      | .minimum => [.inta n]
      | .maximum => [.lockPin false, .inta n] ++ (if s.lock then [] else [.lockPin true])) ++ s.trace }

/-- `t` is `s` once the next `n` instruction bytes have been read, unless they had been before, and some number of bytes
beyond them up to the queue's size: the host hears each byte that is read from a device, in ascending order, a word at a
time only at even addresses of an 8086 (spec/20_memory.md R54, R57; spec/70_reset_and_hazards.md R322, R333). -/
def State.fetched (s t : State) (n : Nat) : Prop :=
  ∃ (k : Nat) (heard : List HostCall), k ≤ s.queueSize ∧
    t = { s with prefetched := t.prefetched, drawn := t.drawn, trace := heard ++ s.trace } ∧
    ((∃ d < n + s.queueSize, s.params.kindAt (phys s.cs (s.ip + BitVec.ofNat 16 d)) = .device) →
      t.prefetched = n + k) ∧
    heard.reverse.flatMap HostCall.fetchedFrom = (((List.range' s.prefetched (n + k - s.prefetched)).map fun d =>
      phys s.cs (s.ip + BitVec.ofNat 16 d)).filter fun a => s.params.kindAt a == .device) ∧
    ∀ c ∈ heard, (∃ a, c = .fetch8 a) ∨ ∃ a, c = .fetch16 a ∧ s.params.variant = .i8086 ∧ a % 2 = 0

/-- `t` is `s` just before an interrupt is served: a CPU that waits has read the WAIT again, from its first byte to its
end; any other has done nothing (spec/60_exceptions.md R292). -/
def State.refetched (s t : State) : Prop :=
  match s.run with
  | .waiting next => State.fetched { s with prefetched := 0 } t (next - s.ip).toNat
  | _ => t = s

/-! ## Steps -/

/-- The step from `s` begins the instruction `i`, which leaves `t` before the end of the instruction is dealt with: the
platform is quiet, the bus is free and nothing waits for it, RESET is low, the CPU runs, and the bytes at CS:IP decode
to `i`, or to one prefix and then `i` (spec/60_exceptions.md R306 steps 1 to 5; spec/30_encoding.md R87). -/
def State.runs (s : State) (i : Instr) (t : State) : Prop :=
  s.quiet ∧ s.busFree ∧ s.settled ∧ s.run = .running ∧ isPrefixByte i = false ∧
    ((∃ rest, decode s.fetchBytes = .instr i rest ∧ exec i (s.begin.advance (6 - rest.length)) = .next t) ∨
      ∃ p rest₀ u rest, decode s.fetchBytes = .instr p rest₀ ∧ isPrefixByte p = true ∧
        exec p (s.begin.advance (6 - rest₀.length)) = .next u ∧ decode u.fetchBytes = .instr i rest ∧
        exec i (u.advance (6 - rest.length)) = .next t)

/-- The step from `s` finds the bus back with the CPU, which goes on from `b`: no other master asked for it any more, or
LOCK is in force, or the one that had it gives it back in the next entry of `outside` and no other asks (spec/20_memory.md
R62). -/
def State.busComesBack (s b : State) : Prop :=
  s.masters = [] ∧ s.resetAsked = false ∧ s.run ≠ .inReset ∧
    ((s.outside = [] ∧ s.busFree ∧ b = { s with
        busReleased := none
        beforeFetch := []
        trace := (if s.busReleased = some .hold then [.hlda false] else []) ++ s.trace }) ∨
      (s.params.busMode = .minimum ∧ s.busReleased = some .hold ∧ s.outside = [[.hold false]] ∧ b = { s with
        busReleased := none
        beforeFetch := []
        outside := []
        pins := { s.pins with hold := false }
        trace := .hlda false :: s.trace }) ∨
      (s.params.busMode = .maximum ∧ s.busReleased = some (.line .gt0) ∧ s.pins.rq1 = false ∧
        s.outside = [[.rq .gt0 false]] ∧ b = { s with
          busReleased := none
          beforeFetch := []
          outside := []
          pins := { s.pins with rq0 := false } }) ∨
      (s.params.busMode = .maximum ∧ s.busReleased = some (.line .gt1) ∧ s.pins.rq0 = false ∧
        s.outside = [[.rq .gt1 false]] ∧ b = { s with
          busReleased := none
          beforeFetch := []
          outside := []
          pins := { s.pins with rq1 := false } }))

/-- An instruction to which the spec gives no behaviour, with the name of its refusal (spec/30_encoding.md R102, R104,
R105, R106). -/
def reservedEncoding (i : Instr) : Option Refusal :=
  match i with
  | .notUsed0F | .notUsed60 _ | .notUsed82 _ | .notUsed83 _ | .notUsed8C _ | .notUsed8E _ | .notUsed8F _ | .notUsedC0 _
  | .notUsedC6 _ | .notUsedC7 _ | .notUsedC8 _ | .notUsedD0 _ | .notUsedD1 _ | .notUsedD2 _ | .notUsedD3 _ | .notUsedD6
  | .notUsedF1 | .notUsedF6 _ | .notUsedF7 _ | .notUsedFE _ | .notUsedFF _ => some .notUsed
  | .refusedAam _ | .refusedAad _ => some .secondByteNot0A
  | .refusedMovCs _ => some .movToCs
  | .refusedLea _ _ | .refusedLes _ _ | .refusedLds _ _ | .refusedCallMem32 _ | .refusedJmpMem32 _ =>
    some .memoryOperandMissing
  | _ => none

/-! ## Flags -/

/-- An even number of 1-bits in the low-order eight bits (R19; that only these count is the spec's general knowledge,
log 14). -/
def evenOnes {w : Nat} (v : BitVec w) : Prop := ((List.range 8).countP fun i => v.getLsbD i) % 2 = 0

/-- SF, ZF and PF by result (R17, R18, R19). -/
def flagsOfResult {w : Nat} (res : BitVec w) (f : Flags) : Prop :=
  f.sF = res.getLsbD (w - 1) ∧ (f.zF = true ↔ res = 0) ∧ (f.pF = true ↔ evenOnes res)

/-- IF, DF and TF unchanged. -/
def controlKept (old f : Flags) : Prop := f.iF = old.iF ∧ f.dF = old.dF ∧ f.tF = old.tF

/-- Whether an integer fits in `w` bits as a signed number (R21). -/
def fitsSigned (w : Nat) (x : Int) : Prop := -(2 ^ (w - 1) : Int) ≤ x ∧ x < (2 ^ (w - 1) : Int)

/-- A carry bit as a value. -/
def carryOf (w : Nat) (c : Bool) : BitVec w := if c then 1 else 0

/-- The six status flags after `a + b + c` (R16 to R21): CF the carry out of the high bit, AF the carry into bit 4, OF
when the signed sum does not fit. -/
def flagsOfSum {w : Nat} (a b : BitVec w) (c : Bool) (old f : Flags) : Prop :=
  (f.cF = true ↔ 2 ^ w ≤ a.toNat + b.toNat + c.toNat) ∧
    f.aF = (a ^^^ b ^^^ (a + b + carryOf w c)).getLsbD 4 ∧
    (f.oF = true ↔ ¬fitsSigned w (a.toInt + b.toInt + c.toNat)) ∧
    flagsOfResult (a + b + carryOf w c) f ∧ controlKept old f

/-- The six status flags after `a - b - c` (R16 to R21): CF the borrow, AF the borrow from bit 4, OF when the signed
difference does not fit. -/
def flagsOfDifference {w : Nat} (a b : BitVec w) (c : Bool) (old f : Flags) : Prop :=
  (f.cF = true ↔ a.toNat < b.toNat + c.toNat) ∧
    f.aF = (a ^^^ b ^^^ (a - b - carryOf w c)).getLsbD 4 ∧
    (f.oF = true ↔ ¬fitsSigned w (a.toInt - b.toInt - c.toNat)) ∧
    flagsOfResult (a - b - carryOf w c) f ∧ controlKept old f

/-- The flags after a logical operation (spec/42_logic_shift.md R170): CF and OF cleared, SF ZF PF by result; AF may
hold either value. -/
def flagsOfLogic {w : Nat} (res : BitVec w) (old f : Flags) : Prop :=
  f.cF = false ∧ f.oF = false ∧ flagsOfResult res f ∧ controlKept old f

end Sys2Proof.Machine
end

