-- ==== Sys2Proof/Certificates/Slice0/Obligations.lean ====
section
/-! DEFINITION. The statements for the provers (OBLIGATIONS.json lists them with the rules they rest on). -/

open Sys2Proof Sys2Proof.Machine

/-! ## Arithmetic -/

/-- R141, R142: in every form, ADD and ADC leave the sum in the destination and the six status flags of it, and change
nothing else. -/
def Obligations.AddAndAdcGiveTheSum : Prop :=
  ∀ s : State, s.undisturbed →
    (∀ (e : Ev) (r : Reg16) (imm : Word) (i8 : Byte),
      ∀ q ∈ ([(.addEvGv e r, e, s.reg16 r, false), (.addGvEv r e, .reg r, s.readEv e, false),
          (.addAxIv imm, .reg .ax, imm, false), (.addEvIv e imm, e, imm, false),
          (.addEvIs e i8, e, i8.signExtend 16, false),
          (.adcEvGv e r, e, s.reg16 r, s.flags.cF), (.adcGvEv r e, .reg r, s.readEv e, s.flags.cF),
          (.adcAxIv imm, .reg .ax, imm, s.flags.cF), (.adcEvIv e imm, e, imm, s.flags.cF),
          (.adcEvIs e i8, e, i8.signExtend 16, s.flags.cF)] : List (Instr × Ev × Word × Bool)),
        s.givesWord q.1 q.2.1 (s.readEv q.2.1 + q.2.2.1 + carryOf 16 q.2.2.2)
          (flagsOfSum (s.readEv q.2.1) q.2.2.1 q.2.2.2 s.flags)) ∧
    (∀ (e : Eb) (r : Reg8) (imm : Byte),
      ∀ q ∈ ([(.addEbGb e r, e, s.reg8 r, false), (.addGbEb r e, .reg r, s.readEb e, false),
          (.addAlIb imm, .reg .al, imm, false), (.addEbIb e imm, e, imm, false), (.addEbIb82 e imm, e, imm, false),
          (.adcEbGb e r, e, s.reg8 r, s.flags.cF), (.adcGbEb r e, .reg r, s.readEb e, s.flags.cF),
          (.adcAlIb imm, .reg .al, imm, s.flags.cF), (.adcEbIb e imm, e, imm, s.flags.cF),
          (.adcEbIb82 e imm, e, imm, s.flags.cF)] : List (Instr × Eb × Byte × Bool)),
        s.givesByte q.1 q.2.1 (s.readEb q.2.1 + q.2.2.1 + carryOf 8 q.2.2.2)
          (flagsOfSum (s.readEb q.2.1) q.2.2.1 q.2.2.2 s.flags))

/-- R146, R147: in every form, SUB and SBB leave the difference in the destination and the six status flags of it, and
change nothing else. That SBB sets the flags of its own subtraction is the spec's inference (R147, "[derived: from rule
R146 and rule R142]"; log 14). -/
def Obligations.SubAndSbbGiveTheDifference : Prop :=
  ∀ s : State, s.undisturbed →
    (∀ (e : Ev) (r : Reg16) (imm : Word) (i8 : Byte),
      ∀ q ∈ ([(.subEvGv e r, e, s.reg16 r, false), (.subGvEv r e, .reg r, s.readEv e, false),
          (.subAxIv imm, .reg .ax, imm, false), (.subEvIv e imm, e, imm, false),
          (.subEvIs e i8, e, i8.signExtend 16, false),
          (.sbbEvGv e r, e, s.reg16 r, s.flags.cF), (.sbbGvEv r e, .reg r, s.readEv e, s.flags.cF),
          (.sbbAxIv imm, .reg .ax, imm, s.flags.cF), (.sbbEvIv e imm, e, imm, s.flags.cF),
          (.sbbEvIs e i8, e, i8.signExtend 16, s.flags.cF)] : List (Instr × Ev × Word × Bool)),
        s.givesWord q.1 q.2.1 (s.readEv q.2.1 - q.2.2.1 - carryOf 16 q.2.2.2)
          (flagsOfDifference (s.readEv q.2.1) q.2.2.1 q.2.2.2 s.flags)) ∧
    (∀ (e : Eb) (r : Reg8) (imm : Byte),
      ∀ q ∈ ([(.subEbGb e r, e, s.reg8 r, false), (.subGbEb r e, .reg r, s.readEb e, false),
          (.subAlIb imm, .reg .al, imm, false), (.subEbIb e imm, e, imm, false), (.subEbIb82 e imm, e, imm, false),
          (.sbbEbGb e r, e, s.reg8 r, s.flags.cF), (.sbbGbEb r e, .reg r, s.readEb e, s.flags.cF),
          (.sbbAlIb imm, .reg .al, imm, s.flags.cF), (.sbbEbIb e imm, e, imm, s.flags.cF),
          (.sbbEbIb82 e imm, e, imm, s.flags.cF)] : List (Instr × Eb × Byte × Bool)),
        s.givesByte q.1 q.2.1 (s.readEb q.2.1 - q.2.2.1 - carryOf 8 q.2.2.2)
          (flagsOfDifference (s.readEb q.2.1) q.2.2.1 q.2.2.2 s.flags))

/-- R150: CMP sets the flags of destination minus source in every form and writes nothing else. That all six flags are
set is the spec's inference (R150, "[derived: from rule R146"; log 14). -/
def Obligations.CompareSetsFlagsOnly : Prop :=
  ∀ s : State,
    (∀ (e : Ev) (r : Reg16) (imm : Word) (i8 : Byte),
      ∀ q ∈ ([(.cmpEvGv e r, s.readEv e, s.reg16 r), (.cmpGvEv r e, s.reg16 r, s.readEv e), (.cmpAxIv imm, s.ax, imm),
          (.cmpEvIv e imm, s.readEv e, imm), (.cmpEvIs e i8, s.readEv e, i8.signExtend 16)] :
          List (Instr × Word × Word)),
        s.givesFlags q.1 (flagsOfDifference q.2.1 q.2.2 false s.flags)) ∧
    (∀ (e : Eb) (r : Reg8) (imm : Byte),
      ∀ q ∈ ([(.cmpEbGb e r, s.readEb e, s.reg8 r), (.cmpGbEb r e, s.reg8 r, s.readEb e),
          (.cmpAlIb imm, s.reg8 .al, imm), (.cmpEbIb e imm, s.readEb e, imm), (.cmpEbIb82 e imm, s.readEb e, imm)] :
          List (Instr × Byte × Byte)),
        s.givesFlags q.1 (flagsOfDifference q.2.1 q.2.2 false s.flags))

/-- R143, R148: INC and DEC add and subtract 1 in every form; OF, SF, ZF, AF, PF are those of the sum or difference and
CF is unchanged. That CF is unchanged is the spec's general knowledge, not its source's (spec/90_conflicts.md C10; log
14). -/
def Obligations.IncAndDecKeepCarry : Prop :=
  ∀ s : State, s.undisturbed →
    (∀ (e : Ev) (r : Reg16),
      (∀ q ∈ ([(.incR16 r, .reg r), (.incEv e, e)] : List (Instr × Ev)),
        s.givesWord q.1 q.2 (s.readEv q.2 + 1) fun f =>
          f.cF = s.flags.cF ∧ ∃ c, flagsOfSum (s.readEv q.2) 1 false s.flags { f with cF := c }) ∧
      (∀ q ∈ ([(.decR16 r, .reg r), (.decEv e, e)] : List (Instr × Ev)),
        s.givesWord q.1 q.2 (s.readEv q.2 - 1) fun f =>
          f.cF = s.flags.cF ∧ ∃ c, flagsOfDifference (s.readEv q.2) 1 false s.flags { f with cF := c })) ∧
    (∀ e : Eb,
      (s.givesByte (.incEb e) e (s.readEb e + 1) fun f =>
        f.cF = s.flags.cF ∧ ∃ c, flagsOfSum (s.readEb e) 1 false s.flags { f with cF := c }) ∧
      (s.givesByte (.decEb e) e (s.readEb e - 1) fun f =>
        f.cF = s.flags.cF ∧ ∃ c, flagsOfDifference (s.readEb e) 1 false s.flags { f with cF := c }))

/-- R149: NEG leaves the two's complement of the operand and the flags of 0 minus it; CF is 0 exactly when the operand
was 0. The flags but CF are the spec's inference (R149, "[derived: from rule R140"; log 14). -/
def Obligations.NegateGivesTwosComplement : Prop :=
  ∀ s : State, s.undisturbed →
    (∀ e : Ev, s.givesWord (.negEv e) e (-s.readEv e) fun f =>
      flagsOfDifference 0 (s.readEv e) false s.flags f ∧ (f.cF = false ↔ s.readEv e = 0)) ∧
    (∀ e : Eb, s.givesByte (.negEb e) e (-s.readEb e) fun f =>
      flagsOfDifference 0 (s.readEb e) false s.flags f ∧ (f.cF = false ↔ s.readEb e = 0))

/-- R144, R151: AAA and AAS adjust AL and AH by the low nibble of AL and AF; AF and CF say whether they did. OF, SF, ZF
and PF may hold either value. The operation is the spec's general knowledge (spec/93_implementation_defined.md Part 2;
log 14). -/
def Obligations.AsciiAdjustOfSumAndDifference : Prop :=
  ∀ s : State, ∀ q ∈ ([(.aaa, 6, 1), (.aas, -6, -1)] : List (Instr × Byte × Byte)),
    ∃ t, exec q.1 s = .next t ∧
      (if 9 < (s.reg8 .al).toNat % 16 ∨ s.flags.aF = true then
        t.reg8 .al = (s.reg8 .al + q.2.1) &&& 0x0F ∧ t.reg8 .ah = s.reg8 .ah + q.2.2 ∧
          t.flags.aF = true ∧ t.flags.cF = true
      else
        t.reg8 .al = s.reg8 .al &&& 0x0F ∧ t.reg8 .ah = s.reg8 .ah ∧ t.flags.aF = false ∧ t.flags.cF = false) ∧
      controlKept s.flags t.flags ∧ State.halvesKept s t [.al, .ah] ∧ State.segsKept s t [] ∧ t.mem = s.mem ∧
      State.restKept s t ∧ State.goesOn s t

/-- R145, R152: DAA and DAS adjust the two nibbles of AL by AF and CF and the old AL; SF, ZF and PF are those of the new
AL, AF and CF say which nibble was adjusted. OF may hold either value. The operation is the spec's general knowledge
(log 14). -/
def Obligations.DecimalAdjustOfSumAndDifference : Prop :=
  ∀ s : State, ∀ q ∈ ([(.daa, 6, 0x60), (.das, -6, -0x60)] : List (Instr × Byte × Byte)),
    ∃ t, exec q.1 s = .next t ∧
      (t.flags.aF = true ↔ 9 < (s.reg8 .al).toNat % 16 ∨ s.flags.aF = true) ∧
      (t.flags.cF = true ↔ 0x99 < (s.reg8 .al).toNat ∨ s.flags.cF = true) ∧
      t.reg8 .al = s.reg8 .al + (if t.flags.aF then q.2.1 else 0) + (if t.flags.cF then q.2.2 else 0) ∧
      flagsOfResult (t.reg8 .al) t.flags ∧ controlKept s.flags t.flags ∧ State.halvesKept s t [.al] ∧
      State.segsKept s t [] ∧ t.mem = s.mem ∧ State.restKept s t ∧ State.goesOn s t

/-- From R141, R142, R145: on packed decimal digits, ADD or ADC followed by DAA is decimal addition, with CF the decimal
carry: the purpose R145 gives DAA. DAA's operation is the spec's general knowledge (log 14). -/
def Obligations.PackedDecimalAddition : Prop :=
  ∀ (s : State) (b : Byte),
    (s.reg8 .al).toNat % 16 ≤ 9 → (s.reg8 .al).toNat / 16 ≤ 9 → b.toNat % 16 ≤ 9 → b.toNat / 16 ≤ 9 →
    ∀ q ∈ ([(.addAlIb b, false), (.adcAlIb b, s.flags.cF)] : List (Instr × Bool)),
      ∃ t u, exec q.1 s = .next t ∧ exec .daa t = .next u ∧
        (u.reg8 .al).toNat % 16 ≤ 9 ∧ (u.reg8 .al).toNat / 16 ≤ 9 ∧
        100 * u.flags.cF.toNat + (10 * ((u.reg8 .al).toNat / 16) + (u.reg8 .al).toNat % 16) =
          (10 * ((s.reg8 .al).toNat / 16) + (s.reg8 .al).toNat % 16) + (10 * (b.toNat / 16) + b.toNat % 16) + q.2.toNat

/-- R155, R158: AAM splits AL into tens and units, AAD joins AH and AL into a binary number; SF, ZF, PF are those of the
new AL. OF, AF and CF may hold either value. Both operations are the spec's general knowledge (log 14). -/
def Obligations.DigitsSplitAndJoined : Prop :=
  ∀ s : State,
    ∀ q ∈ ([(.aam, (s.reg8 .al).toNat % 10, (s.reg8 .al).toNat / 10),
        (.aad, ((s.reg8 .ah).toNat * 10 + (s.reg8 .al).toNat) % 256, 0)] : List (Instr × Nat × Nat)),
      ∃ t, exec q.1 s = .next t ∧ (t.reg8 .al).toNat = q.2.1 ∧ (t.reg8 .ah).toNat = q.2.2 ∧
        flagsOfResult (t.reg8 .al) t.flags ∧ controlKept s.flags t.flags ∧ State.halvesKept s t [.al, .ah] ∧
        State.segsKept s t [] ∧ t.mem = s.mem ∧ State.restKept s t ∧ State.goesOn s t

/-- R159, R160: CBW makes AX, and CWD makes DX:AX, the sign extension of AL and of AX; no flag changes. Beyond the names
of the instructions this is the spec's general knowledge (log 14). -/
def Obligations.ConversionsExtendTheSign : Prop :=
  ∀ s : State,
    (s.givesWord .cbw (.reg .ax) ((s.reg8 .al).signExtend 16) fun f => f = s.flags) ∧
    (s.givesWord .cwd (.reg .dx) ((s.ax.signExtend 32).extractLsb' 16 16) fun f => f = s.flags)

/-- R153, R154: MUL and IMUL leave the whole product in AX or DX:AX; CF and OF say that it does not fit the lower half
as an unsigned or a signed number. SF, ZF, AF and PF may hold either value. The rule for CF and OF is the spec's general
knowledge (log 14). -/
def Obligations.MultiplyGivesTheProduct : Prop :=
  ∀ s : State,
    (∀ e : Eb,
      (∃ t, exec (.mulEb e) s = .next t ∧ t.ax.toNat = (s.reg8 .al).toNat * (s.readEb e).toNat ∧
        (t.flags.cF = true ↔ 256 ≤ t.ax.toNat) ∧ t.flags.oF = t.flags.cF ∧ controlKept s.flags t.flags ∧
        State.regsKept s t [.ax] ∧ State.segsKept s t [] ∧ t.mem = s.mem ∧ State.restKept s t ∧ State.goesOn s t) ∧
      (∃ t, exec (.imulEb e) s = .next t ∧ t.ax.toInt = (s.reg8 .al).toInt * (s.readEb e).toInt ∧
        (t.flags.cF = true ↔ ¬fitsSigned 8 t.ax.toInt) ∧ t.flags.oF = t.flags.cF ∧ controlKept s.flags t.flags ∧
        State.regsKept s t [.ax] ∧ State.segsKept s t [] ∧ t.mem = s.mem ∧ State.restKept s t ∧ State.goesOn s t)) ∧
    (∀ e : Ev,
      (∃ t, exec (.mulEv e) s = .next t ∧ (t.dx ++ t.ax).toNat = s.ax.toNat * (s.readEv e).toNat ∧
        (t.flags.cF = true ↔ 65536 ≤ (t.dx ++ t.ax).toNat) ∧ t.flags.oF = t.flags.cF ∧
        controlKept s.flags t.flags ∧ State.regsKept s t [.ax, .dx] ∧ State.segsKept s t [] ∧ t.mem = s.mem ∧
        State.restKept s t ∧ State.goesOn s t) ∧
      (∃ t, exec (.imulEv e) s = .next t ∧ (t.dx ++ t.ax).toInt = s.ax.toInt * (s.readEv e).toInt ∧
        (t.flags.cF = true ↔ ¬fitsSigned 16 (t.dx ++ t.ax).toInt) ∧ t.flags.oF = t.flags.cF ∧
        controlKept s.flags t.flags ∧ State.regsKept s t [.ax, .dx] ∧ State.segsKept s t [] ∧ t.mem = s.mem ∧
        State.restKept s t ∧ State.goesOn s t))

/-- R156: DIV by a non-zero divisor whose quotient fits leaves quotient and remainder; the status flags may hold any
value. Which register takes which is the spec's general knowledge (log 14). -/
def Obligations.UnsignedDivisionGivesQuotientAndRemainder : Prop :=
  ∀ (s : State) (q r : Nat),
    (∀ e : Eb, s.ax.toNat = q * (s.readEb e).toNat + r → r < (s.readEb e).toNat → q ≤ 0xFF →
      ∃ t, exec (.divEb e) s = .next t ∧ (t.reg8 .al).toNat = q ∧ (t.reg8 .ah).toNat = r ∧
        controlKept s.flags t.flags ∧ State.regsKept s t [.ax] ∧ State.segsKept s t [] ∧ t.mem = s.mem ∧
        State.restKept s t ∧ State.goesOn s t) ∧
    (∀ e : Ev, (s.dx ++ s.ax).toNat = q * (s.readEv e).toNat + r → r < (s.readEv e).toNat → q ≤ 0xFFFF →
      ∃ t, exec (.divEv e) s = .next t ∧ t.ax.toNat = q ∧ t.dx.toNat = r ∧
        controlKept s.flags t.flags ∧ State.regsKept s t [.ax, .dx] ∧ State.segsKept s t [] ∧ t.mem = s.mem ∧
        State.restKept s t ∧ State.goesOn s t)

/-- R157: IDIV with a quotient in the symmetric range leaves the quotient truncated toward zero and the remainder with
the sign of the dividend; the status flags may hold any value. The operation and the range are the spec's general
knowledge and its decision D26 (logs 11 and 14). -/
def Obligations.SignedDivisionGivesQuotientAndRemainder : Prop :=
  ∀ (s : State) (q r : Int),
    (∀ e : Eb, s.ax.toInt = q * (s.readEb e).toInt + r → r.natAbs < (s.readEb e).toInt.natAbs →
      (r = 0 ∨ (0 < r ↔ 0 < s.ax.toInt)) → -127 ≤ q → q ≤ 127 →
      ∃ t, exec (.idivEb e) s = .next t ∧ (t.reg8 .al).toInt = q ∧ (t.reg8 .ah).toInt = r ∧
        controlKept s.flags t.flags ∧ State.regsKept s t [.ax] ∧ State.segsKept s t [] ∧ t.mem = s.mem ∧
        State.restKept s t ∧ State.goesOn s t) ∧
    (∀ e : Ev, (s.dx ++ s.ax).toInt = q * (s.readEv e).toInt + r → r.natAbs < (s.readEv e).toInt.natAbs →
      (r = 0 ∨ (0 < r ↔ 0 < (s.dx ++ s.ax).toInt)) → -32767 ≤ q → q ≤ 32767 →
      ∃ t, exec (.idivEv e) s = .next t ∧ t.ax.toInt = q ∧ t.dx.toInt = r ∧
        controlKept s.flags t.flags ∧ State.regsKept s t [.ax, .dx] ∧ State.segsKept s t [] ∧ t.mem = s.mem ∧
        State.restKept s t ∧ State.goesOn s t)

/-- R156, R157, R272, R273: a zero divisor or a quotient too large enters the type 0 interrupt with the offset of the
next instruction saved; AX and DX keep their values, the status flags that are pushed may hold any value. What a failed
divide leaves, and the range of IDIV, are the spec's decisions D6 and D26 (logs 11 and 18). -/
def Obligations.DivideErrorEntersTypeZero : Prop :=
  ∀ (s : State) (i : Instr), s.undisturbed →
    ((∃ e, i = .divEb e ∧ ((s.readEb e).toNat = 0 ∨ 0xFF < s.ax.toNat / (s.readEb e).toNat)) ∨
      (∃ e, i = .divEv e ∧ ((s.readEv e).toNat = 0 ∨ 0xFFFF < (s.dx ++ s.ax).toNat / (s.readEv e).toNat)) ∨
      (∃ e, i = .idivEb e ∧ ((s.readEb e).toInt = 0 ∨ 127 < (s.ax.toInt.tdiv (s.readEb e).toInt).natAbs)) ∨
      (∃ e, i = .idivEv e ∧
        ((s.readEv e).toInt = 0 ∨ 32767 < ((s.dx ++ s.ax).toInt.tdiv (s.readEv e).toInt).natAbs))) →
    ∃ t f, exec i s = .next t ∧ controlKept s.flags f ∧ s.entered t 0 s.ip f ∧ State.systemKept s t ∧
      t.inhibitInt = s.inhibitInt ∧ t.ioIn = s.ioIn ∧ t.cur = { s.cur with swSeq := true, jumped := true }

/-! ## Logic, shifts and rotates -/

/-- R171 to R175: AND, OR and XOR leave the bitwise result in every form, with CF and OF cleared and SF, ZF, PF by
result; AF may hold either value. TEST sets the flags of the bitwise AND and writes nothing else; NOT inverts every bit
and changes no flag. -/
def Obligations.LogicGivesTheBitwiseResult : Prop :=
  ∀ s : State,
    (s.undisturbed →
      (∀ (e : Ev) (r : Reg16) (imm : Word),
        ∀ q ∈ ([(.andEvGv e r, e, s.readEv e &&& s.reg16 r), (.andGvEv r e, .reg r, s.reg16 r &&& s.readEv e),
            (.andAxIv imm, .reg .ax, s.ax &&& imm), (.andEvIv e imm, e, s.readEv e &&& imm),
            (.orEvGv e r, e, s.readEv e ||| s.reg16 r), (.orGvEv r e, .reg r, s.reg16 r ||| s.readEv e),
            (.orAxIv imm, .reg .ax, s.ax ||| imm), (.orEvIv e imm, e, s.readEv e ||| imm),
            (.xorEvGv e r, e, s.readEv e ^^^ s.reg16 r), (.xorGvEv r e, .reg r, s.reg16 r ^^^ s.readEv e),
            (.xorAxIv imm, .reg .ax, s.ax ^^^ imm), (.xorEvIv e imm, e, s.readEv e ^^^ imm)] :
            List (Instr × Ev × Word)),
          s.givesWord q.1 q.2.1 q.2.2 (flagsOfLogic q.2.2 s.flags)) ∧
      (∀ (e : Eb) (r : Reg8) (imm : Byte),
        ∀ q ∈ ([(.andEbGb e r, e, s.readEb e &&& s.reg8 r), (.andGbEb r e, .reg r, s.reg8 r &&& s.readEb e),
            (.andAlIb imm, .reg .al, s.reg8 .al &&& imm), (.andEbIb e imm, e, s.readEb e &&& imm),
            (.orEbGb e r, e, s.readEb e ||| s.reg8 r), (.orGbEb r e, .reg r, s.reg8 r ||| s.readEb e),
            (.orAlIb imm, .reg .al, s.reg8 .al ||| imm), (.orEbIb e imm, e, s.readEb e ||| imm),
            (.xorEbGb e r, e, s.readEb e ^^^ s.reg8 r), (.xorGbEb r e, .reg r, s.reg8 r ^^^ s.readEb e),
            (.xorAlIb imm, .reg .al, s.reg8 .al ^^^ imm), (.xorEbIb e imm, e, s.readEb e ^^^ imm)] :
            List (Instr × Eb × Byte)),
          s.givesByte q.1 q.2.1 q.2.2 (flagsOfLogic q.2.2 s.flags))) ∧
    (∀ (e : Ev) (r : Reg16) (imm : Word),
      ∀ q ∈ ([(.testEvGv e r, s.readEv e &&& s.reg16 r), (.testAxIv imm, s.ax &&& imm),
          (.testEvIv e imm, s.readEv e &&& imm)] : List (Instr × Word)),
        s.givesFlags q.1 (flagsOfLogic q.2 s.flags)) ∧
    (∀ (e : Eb) (r : Reg8) (imm : Byte),
      ∀ q ∈ ([(.testEbGb e r, s.readEb e &&& s.reg8 r), (.testAlIb imm, s.reg8 .al &&& imm),
          (.testEbIb e imm, s.readEb e &&& imm)] : List (Instr × Byte)),
        s.givesFlags q.1 (flagsOfLogic q.2 s.flags)) ∧
    (s.undisturbed →
      (∀ e : Ev, s.givesWord (.notEv e) e (~~~s.readEv e) fun f => f = s.flags) ∧
      (∀ e : Eb, s.givesByte (.notEb e) e (~~~s.readEb e) fun f => f = s.flags))

/-- R176 to R179: SHL, SHR and SAR by a non-zero count, 1 or all of CL, shift the operand that far in one go; CF is the
last bit out, OF has its rule for a count of 1, SF, ZF and PF are by result. AF, and OF for other counts, may hold
either value. A count of 0 changes nothing. The unmasked count, the count of 0 and the flags left undefined are the
spec's decision D5 and its general knowledge (log 15). -/
def Obligations.ShiftsByAnyCount : Prop :=
  ∀ s : State, s.undisturbed →
    (∀ e : Ev,
      ∀ p ∈ ([(1, .shlEv1 e, .shrEv1 e, .sarEv1 e), ((s.reg8 .cl).toNat, .shlEvCl e, .shrEvCl e, .sarEvCl e)] :
          List (Nat × Instr × Instr × Instr)),
        (p.1 = 0 → exec p.2.1 s = .next s ∧ exec p.2.2.1 s = .next s ∧ exec p.2.2.2 s = .next s) ∧
        (p.1 ≠ 0 →
          (s.givesWord p.2.1 e (s.readEv e <<< p.1) fun f =>
            f.cF = (decide (p.1 ≤ 16) && (s.readEv e).getLsbD (16 - p.1)) ∧
              (p.1 = 1 → f.oF = ((s.readEv e).getLsbD 14 ^^ (s.readEv e).getLsbD 15)) ∧
              flagsOfResult (s.readEv e <<< p.1) f ∧ controlKept s.flags f) ∧
          (s.givesWord p.2.2.1 e (s.readEv e >>> p.1) fun f =>
            f.cF = (s.readEv e).getLsbD (p.1 - 1) ∧ (p.1 = 1 → f.oF = (s.readEv e).getLsbD 15) ∧
              flagsOfResult (s.readEv e >>> p.1) f ∧ controlKept s.flags f) ∧
          (s.givesWord p.2.2.2 e ((s.readEv e).sshiftRight p.1) fun f =>
            f.cF = ((s.readEv e).sshiftRight (p.1 - 1)).getLsbD 0 ∧ (p.1 = 1 → f.oF = false) ∧
              flagsOfResult ((s.readEv e).sshiftRight p.1) f ∧ controlKept s.flags f))) ∧
    (∀ e : Eb,
      ∀ p ∈ ([(1, .shlEb1 e, .shrEb1 e, .sarEb1 e), ((s.reg8 .cl).toNat, .shlEbCl e, .shrEbCl e, .sarEbCl e)] :
          List (Nat × Instr × Instr × Instr)),
        (p.1 = 0 → exec p.2.1 s = .next s ∧ exec p.2.2.1 s = .next s ∧ exec p.2.2.2 s = .next s) ∧
        (p.1 ≠ 0 →
          (s.givesByte p.2.1 e (s.readEb e <<< p.1) fun f =>
            f.cF = (decide (p.1 ≤ 8) && (s.readEb e).getLsbD (8 - p.1)) ∧
              (p.1 = 1 → f.oF = ((s.readEb e).getLsbD 6 ^^ (s.readEb e).getLsbD 7)) ∧
              flagsOfResult (s.readEb e <<< p.1) f ∧ controlKept s.flags f) ∧
          (s.givesByte p.2.2.1 e (s.readEb e >>> p.1) fun f =>
            f.cF = (s.readEb e).getLsbD (p.1 - 1) ∧ (p.1 = 1 → f.oF = (s.readEb e).getLsbD 7) ∧
              flagsOfResult (s.readEb e >>> p.1) f ∧ controlKept s.flags f) ∧
          (s.givesByte p.2.2.2 e ((s.readEb e).sshiftRight p.1) fun f =>
            f.cF = ((s.readEb e).sshiftRight (p.1 - 1)).getLsbD 0 ∧ (p.1 = 1 → f.oF = false) ∧
              flagsOfResult ((s.readEb e).sshiftRight p.1) f ∧ controlKept s.flags f)))

/-- R176, R180 to R183: ROL and ROR by a non-zero count rotate the operand that far in one go, RCL and RCR rotate it
with CF on top of it, over W + 1 bits; CF is the last bit that went round, OF has its rule for a count of 1, SF, ZF, AF
and PF are unchanged. A count of 0 changes nothing. D5 and the spec's general knowledge as for the shifts (log 15). -/
def Obligations.RotatesByAnyCount : Prop :=
  ∀ s : State, s.undisturbed →
    (∀ e : Ev,
      ∀ p ∈ ([(1, .rolEv1 e, .rorEv1 e), ((s.reg8 .cl).toNat, .rolEvCl e, .rorEvCl e)] : List (Nat × Instr × Instr)),
        (p.1 = 0 → exec p.2.1 s = .next s ∧ exec p.2.2 s = .next s) ∧
        (p.1 ≠ 0 →
          (s.givesWord p.2.1 e ((s.readEv e).rotateLeft p.1) fun f =>
            f.cF = ((s.readEv e).rotateLeft p.1).getLsbD 0 ∧
              (p.1 = 1 → f.oF = ((s.readEv e).getLsbD 14 ^^ (s.readEv e).getLsbD 15)) ∧
              { f with cF := s.flags.cF, oF := s.flags.oF } = s.flags) ∧
          (s.givesWord p.2.2 e ((s.readEv e).rotateRight p.1) fun f =>
            f.cF = ((s.readEv e).rotateRight p.1).getLsbD 15 ∧
              (p.1 = 1 → f.oF = ((s.readEv e).getLsbD 0 ^^ (s.readEv e).getLsbD 15)) ∧
              { f with cF := s.flags.cF, oF := s.flags.oF } = s.flags))) ∧
    (∀ e : Eb,
      ∀ p ∈ ([(1, .rolEb1 e, .rorEb1 e), ((s.reg8 .cl).toNat, .rolEbCl e, .rorEbCl e)] : List (Nat × Instr × Instr)),
        (p.1 = 0 → exec p.2.1 s = .next s ∧ exec p.2.2 s = .next s) ∧
        (p.1 ≠ 0 →
          (s.givesByte p.2.1 e ((s.readEb e).rotateLeft p.1) fun f =>
            f.cF = ((s.readEb e).rotateLeft p.1).getLsbD 0 ∧
              (p.1 = 1 → f.oF = ((s.readEb e).getLsbD 6 ^^ (s.readEb e).getLsbD 7)) ∧
              { f with cF := s.flags.cF, oF := s.flags.oF } = s.flags) ∧
          (s.givesByte p.2.2 e ((s.readEb e).rotateRight p.1) fun f =>
            f.cF = ((s.readEb e).rotateRight p.1).getLsbD 7 ∧
              (p.1 = 1 → f.oF = ((s.readEb e).getLsbD 0 ^^ (s.readEb e).getLsbD 7)) ∧
              { f with cF := s.flags.cF, oF := s.flags.oF } = s.flags))) ∧
    (∀ e : Ev,
      ∀ p ∈ ([(1, .rclEv1 e, .rcrEv1 e), ((s.reg8 .cl).toNat, .rclEvCl e, .rcrEvCl e)] : List (Nat × Instr × Instr)),
        (p.1 = 0 → exec p.2.1 s = .next s ∧ exec p.2.2 s = .next s) ∧
        (p.1 ≠ 0 →
          (s.givesWord p.2.1 e (((BitVec.cons s.flags.cF (s.readEv e)).rotateLeft p.1).setWidth 16) fun f =>
            f.cF = ((BitVec.cons s.flags.cF (s.readEv e)).rotateLeft p.1).getLsbD 16 ∧
              (p.1 = 1 → f.oF = ((s.readEv e).getLsbD 14 ^^ (s.readEv e).getLsbD 15)) ∧
              { f with cF := s.flags.cF, oF := s.flags.oF } = s.flags) ∧
          (s.givesWord p.2.2 e (((BitVec.cons s.flags.cF (s.readEv e)).rotateRight p.1).setWidth 16) fun f =>
            f.cF = ((BitVec.cons s.flags.cF (s.readEv e)).rotateRight p.1).getLsbD 16 ∧
              (p.1 = 1 → f.oF = (s.flags.cF ^^ (s.readEv e).getLsbD 15)) ∧
              { f with cF := s.flags.cF, oF := s.flags.oF } = s.flags))) ∧
    (∀ e : Eb,
      ∀ p ∈ ([(1, .rclEb1 e, .rcrEb1 e), ((s.reg8 .cl).toNat, .rclEbCl e, .rcrEbCl e)] : List (Nat × Instr × Instr)),
        (p.1 = 0 → exec p.2.1 s = .next s ∧ exec p.2.2 s = .next s) ∧
        (p.1 ≠ 0 →
          (s.givesByte p.2.1 e (((BitVec.cons s.flags.cF (s.readEb e)).rotateLeft p.1).setWidth 8) fun f =>
            f.cF = ((BitVec.cons s.flags.cF (s.readEb e)).rotateLeft p.1).getLsbD 8 ∧
              (p.1 = 1 → f.oF = ((s.readEb e).getLsbD 6 ^^ (s.readEb e).getLsbD 7)) ∧
              { f with cF := s.flags.cF, oF := s.flags.oF } = s.flags) ∧
          (s.givesByte p.2.2 e (((BitVec.cons s.flags.cF (s.readEb e)).rotateRight p.1).setWidth 8) fun f =>
            f.cF = ((BitVec.cons s.flags.cF (s.readEb e)).rotateRight p.1).getLsbD 8 ∧
              (p.1 = 1 → f.oF = (s.flags.cF ^^ (s.readEb e).getLsbD 7)) ∧
              { f with cF := s.flags.cF, oF := s.flags.oF } = s.flags)))

/-! ## Data transfer -/

/-- R83, R84: the effective address is the sum modulo 65536 of base, index and sign-extended displacement, in SS when BP
takes part and else in DS, unless a segment override names another segment register. That the sum wraps is the spec's
decision D7 (log 13). -/
def Obligations.MemoryOperandsAreAddressed : Prop :=
  ∀ s : State,
    (∀ off : Word, s.ea (.direct off) = off ∧ s.segOf (.direct off) = s.sreg (s.cur.segOverride.getD .ds)) ∧
    (∀ (b : Byte) (w : Word),
      ∀ d ∈ ([(.absent, 0), (.d8 b, b.toInt), (.d16 w, w.toNat)] : List (Disp × Int)),
      ∀ q ∈ ([(.bxSi, s.bx.toNat + s.si.toNat, .ds), (.bxDi, s.bx.toNat + s.di.toNat, .ds),
          (.bpSi, s.bp.toNat + s.si.toNat, .ss), (.bpDi, s.bp.toNat + s.di.toNat, .ss), (.si, s.si.toNat, .ds),
          (.di, s.di.toNat, .ds), (.bp, s.bp.toNat, .ss), (.bx, s.bx.toNat, .ds)] : List (EaBase × Nat × SReg)),
        ((s.ea (.indexed q.1 d.1)).toNat : Int) = (q.2.1 + d.2) % 65536 ∧
          s.segOf (.indexed q.1 d.1) = s.sreg (s.cur.segOverride.getD q.2.2))

/-- R111 to R114, R116: every MOV but those to a segment register leaves the source in the destination and changes
nothing else. -/
def Obligations.MovesCopyTheSource : Prop :=
  ∀ s : State,
    (∀ (e : Ev) (r : Reg16) (g : SReg) (w : Word),
      ∀ q ∈ ([(.movEvGv e r, e, s.reg16 r), (.movGvEv r e, .reg r, s.readEv e), (.movEvIv e w, e, w),
          (.movR16Iv r w, .reg r, w), (.movAxMem w, .reg .ax, s.read16 (s.segOr .ds) w),
          (.movMemAx w, .mem (.direct w), s.ax), (.movEvSeg e g, e, s.sreg g)] : List (Instr × Ev × Word)),
        s.givesWord q.1 q.2.1 q.2.2 fun f => f = s.flags) ∧
    (∀ (e : Eb) (r : Reg8) (b : Byte) (w : Word),
      ∀ q ∈ ([(.movEbGb e r, e, s.reg8 r), (.movGbEb r e, .reg r, s.readEb e), (.movEbIb e b, e, b),
          (.movR8Ib r b, .reg r, b), (.movAlMem w, .reg .al, s.read8 (s.segOr .ds) w),
          (.movMemAl w, .mem (.direct w), s.reg8 .al)] :
          List (Instr × Eb × Byte)),
        s.givesByte q.1 q.2.1 q.2.2 fun f => f = s.flags)

/-- R115 and the segment register forms of R118: MOV and POP to ES, SS or DS load the register and hold off the sampling
of interrupts at the end of this instruction; POP raises SP by 2. Nothing else changes. That it holds for all segment
registers and all interrupts is the spec's decision D11 (log 19). -/
def Obligations.SegmentLoadsHoldOffInterrupts : Prop :=
  ∀ (s : State) (e : Ev),
    ∀ q ∈ ([(.movEsEv e, .es, s.readEv e, s.sp), (.movSsEv e, .ss, s.readEv e, s.sp),
        (.movDsEv e, .ds, s.readEv e, s.sp), (.popEs, .es, s.read16 s.ss s.sp, s.sp + 2),
        (.popSs, .ss, s.read16 s.ss s.sp, s.sp + 2), (.popDs, .ds, s.read16 s.ss s.sp, s.sp + 2)] :
        List (Instr × SReg × Word × Word)),
      ∃ t, exec q.1 s = .next t ∧ t.sreg q.2.1 = q.2.2.1 ∧ t.inhibitInt = true ∧ t.sp = q.2.2.2 ∧
        State.segsKept s t [q.2.1] ∧ State.regsKept s t [.sp] ∧ t.flags = s.flags ∧ t.mem = s.mem ∧
        State.systemKept s t ∧ t.run = s.run ∧ t.ioIn = s.ioIn ∧ t.trace = s.trace ∧ State.goesOn s t

/-- R117, R129: PUSH and PUSHF lower SP by 2 and write the word there, low byte first; PUSH SP writes the lowered SP:
the spec's decision D9 (log 10). The seven unused bits of the word PUSHF writes are its decision D1 (log 1). Nothing
else changes. -/
def Obligations.PushStoresTheSource : Prop :=
  ∀ (s : State) (e : Ev) (r : Reg16), s.undisturbed →
    (∀ q ∈ ([(.pushR16 r, if r = .sp then s.sp - 2 else s.reg16 r),
        (.pushEv e, if e = .reg .sp then s.sp - 2 else s.readEv e), (.pushEs, s.es), (.pushCs, s.cs), (.pushSs, s.ss),
        (.pushDs, s.ds)] : List (Instr × Word)),
      ∃ t, exec q.1 s = .next t ∧ State.pushed s t [q.2] ∧ State.regsKept s t [.sp] ∧ State.segsKept s t [] ∧
        t.flags = s.flags ∧ State.othersKept s t ∧ State.goesOn s t) ∧
    (∃ t v, exec .pushf s = .next t ∧ State.pushed s t [v] ∧ isFlagsImage v s.flags ∧ State.regsKept s t [.sp] ∧
      State.segsKept s t [] ∧ t.flags = s.flags ∧ State.othersKept s t ∧ State.goesOn s t)

/-- R118, R130: POP leaves the word at the top of the stack in the destination and raises SP by 2, but POP SP leaves the
word itself in SP: the spec's decision D9 (log 10). POPF takes all nine flags from the word. Nothing else changes. The
segment register forms are in SegmentLoadsHoldOffInterrupts. -/
def Obligations.PopTakesTheTop : Prop :=
  ∀ (s : State) (e : Ev) (r : Reg16), s.undisturbed →
    (∀ q ∈ ([(.popR16 r, .reg r), (.popEv e, e)] : List (Instr × Ev)),
      ∃ t, exec q.1 s = .next t ∧ (s.lands (s.storesWord q.2) → t.readEv q.2 = s.read16 s.ss s.sp) ∧
        (q.2 ≠ .reg .sp → t.sp = s.sp + 2) ∧
        State.regsKept s t (.sp :: evRegs q.2) ∧ State.segsKept s t [] ∧ State.memKept s t (s.storesWord q.2) ∧
        t.flags = s.flags ∧ State.othersKept s t ∧ State.goesOn s t) ∧
    (∃ t, exec .popf s = .next t ∧ carriesFlags (s.read16 s.ss s.sp) t.flags ∧ t.sp = s.sp + 2 ∧
      State.regsKept s t [.sp] ∧ State.segsKept s t [] ∧ t.mem = s.mem ∧ State.restKept s t ∧ State.goesOn s t)

/-- R119, R120: XCHG leaves each operand's old value in the other and changes nothing else. -/
def Obligations.ExchangesSwap : Prop :=
  ∀ s : State, s.undisturbed →
    (∀ (r : Reg16) (e : Ev),
      ∃ t, exec (.xchgGvEv r e) s = .next t ∧ t.reg16 r = s.readEv e ∧
        (match e with
          | .reg q => t.reg16 q = s.reg16 r
          | .mem m => s.lands (s.storesWord e) → t.read16 (s.segOf m) (s.ea m) = s.reg16 r) ∧
        State.regsKept s t (r :: evRegs e) ∧ State.segsKept s t [] ∧ State.memKept s t (s.storesWord e) ∧
        t.flags = s.flags ∧ State.othersKept s t ∧ State.goesOn s t) ∧
    (∀ (r : Reg8) (e : Eb),
      ∃ t, exec (.xchgGbEb r e) s = .next t ∧ t.reg8 r = s.readEb e ∧
        (match e with
          | .reg q => t.reg8 q = s.reg8 r
          | .mem m => s.lands (s.storesByte e) → t.read8 (s.segOf m) (s.ea m) = s.reg8 r) ∧
        State.halvesKept s t (r :: ebRegs e) ∧ State.segsKept s t [] ∧ State.memKept s t (s.storesByte e) ∧
        t.flags = s.flags ∧ State.othersKept s t ∧ State.goesOn s t) ∧
    (∀ q ∈ ([(.xchgAxCx, .cx), (.xchgAxDx, .dx), (.xchgAxBx, .bx), (.xchgAxSp, .sp), (.xchgAxBp, .bp), (.xchgAxSi, .si),
        (.xchgAxDi, .di)] : List (Instr × Reg16)),
      ∃ t, exec q.1 s = .next t ∧ t.ax = s.reg16 q.2 ∧ t.reg16 q.2 = s.ax ∧ State.regsKept s t [.ax, q.2] ∧
        State.segsKept s t [] ∧ t.mem = s.mem ∧ t.flags = s.flags ∧ State.restKept s t ∧ State.goesOn s t)

/-- R121, R124, R125, R126: LEA leaves the effective address in the register; XLAT leaves in AL the byte at BX + AL in
DS or the overriding segment; LDS and LES leave the pointer's offset word in the register and its other word in DS or
ES. Nothing else changes, and interrupts are not held off. XLAT's index, which word goes where, and that LDS and LES do
not hold off interrupts are the spec's general knowledge and its decision D11 (logs 16 and 19). -/
def Obligations.AddressesAndPointersAreLoaded : Prop :=
  ∀ (s : State) (r : Reg16) (m : MemOp),
    (s.givesWord (.lea r m) (.reg r) (s.ea m) fun f => f = s.flags) ∧
    (s.givesByte .xlat (.reg .al) (s.read8 (s.segOr .ds) (BitVec.ofNat 16 (s.bx.toNat + (s.reg8 .al).toNat))) fun f =>
      f = s.flags) ∧
    (s.undisturbed →
      ∀ q ∈ ([(.lds r m, .ds), (.les r m, .es)] : List (Instr × SReg)),
        ∃ t, exec q.1 s = .next t ∧ t.reg16 r = s.read16 (s.segOf m) (s.ea m) ∧
          t.sreg q.2 = s.read16 (s.segOf m) (s.ea m + 2) ∧ State.regsKept s t [r] ∧ State.segsKept s t [q.2] ∧
          t.mem = s.mem ∧ t.flags = s.flags ∧ State.restKept s t ∧ State.goesOn s t)

/-- R127, R128: LAHF leaves SF ZF 0 AF 0 PF 1 CF in AH, from bit 7 down; SAHF takes those five flags from AH. Bits 5, 3
and 1, and the list of flags SAHF takes, are the spec's decision D1 and its general knowledge (log 1). -/
def Obligations.FlagsThroughAh : Prop :=
  ∀ s : State,
    (∃ v : Byte, (s.givesByte .lahf (.reg .ah) v fun f => f = s.flags) ∧ v.getLsbD 7 = s.flags.sF ∧
      v.getLsbD 6 = s.flags.zF ∧ v.getLsbD 5 = false ∧ v.getLsbD 4 = s.flags.aF ∧ v.getLsbD 3 = false ∧
      v.getLsbD 2 = s.flags.pF ∧ v.getLsbD 1 = true ∧ v.getLsbD 0 = s.flags.cF) ∧
    (s.givesFlags .sahf fun f =>
      f.sF = (s.reg8 .ah).getLsbD 7 ∧ f.zF = (s.reg8 .ah).getLsbD 6 ∧ f.aF = (s.reg8 .ah).getLsbD 4 ∧
        f.pF = (s.reg8 .ah).getLsbD 2 ∧ f.cF = (s.reg8 .ah).getLsbD 0 ∧ f.oF = s.flags.oF ∧
        controlKept s.flags f)

/-- R122 with R50: IN leaves in AL or AX what the port answers: the bytes the platform has queued, low port first, and
any bytes where it has queued none (the model's form of `io_read`, log 8). The host sees a byte transfer, one 16-bit
transfer at an even port of an 8086, or else two byte transfers, the low port first (log 25). -/
def Obligations.InputReadsThePort : Prop :=
  ∀ (s : State) (p : Byte),
    (∀ q ∈ ([(.inAlIb p, p.setWidth 16), (.inAlDx, s.dx)] : List (Instr × Word)),
      ∃ t, exec q.1 s = .next t ∧ t.trace = .ioRead8 q.2 (t.reg8 .al) :: s.trace ∧ t.ioIn = s.ioIn.drop 1 ∧
        (∀ b rest, s.ioIn = b :: rest → t.reg8 .al = b) ∧ State.halvesKept s t [.al] ∧ State.segsKept s t [] ∧
        t.mem = s.mem ∧ t.flags = s.flags ∧ State.systemKept s t ∧ t.run = s.run ∧ t.inhibitInt = s.inhibitInt ∧
        State.goesOn s t) ∧
    (∀ q ∈ ([(.inAxIb p, p.setWidth 16), (.inAxDx, s.dx)] : List (Instr × Word)),
      ∃ t, exec q.1 s = .next t ∧
        t.trace = (if s.params.variant = .i8086 ∧ q.2.toNat % 2 = 0 then [.ioRead16 q.2 t.ax]
          else [.ioRead8 (q.2 + 1) (t.reg8 .ah), .ioRead8 q.2 (t.reg8 .al)]) ++ s.trace ∧
        t.ioIn = s.ioIn.drop 2 ∧ (∀ b rest, s.ioIn = b :: rest → t.reg8 .al = b) ∧
        (∀ b c rest, s.ioIn = b :: c :: rest → t.reg8 .ah = c) ∧ State.regsKept s t [.ax] ∧
        State.segsKept s t [] ∧ t.mem = s.mem ∧ t.flags = s.flags ∧ State.systemKept s t ∧ t.run = s.run ∧
        t.inhibitInt = s.inhibitInt ∧ State.goesOn s t)

/-- R123 with R50: OUT shows the host a byte transfer of AL, or AX as one 16-bit transfer at an even port of an 8086 and
else as two byte transfers, the low port first. Nothing else changes. How a word is split, and the port after FFFFH, are
the spec's decision D16 (log 25). -/
def Obligations.OutputWritesThePort : Prop :=
  ∀ (s : State) (p : Byte),
    (∀ q ∈ ([(.outIbAl p, p.setWidth 16), (.outDxAl, s.dx)] : List (Instr × Word)),
      exec q.1 s = .next { s with trace := .ioWrite8 q.2 (s.reg8 .al) :: s.trace }) ∧
    (∀ q ∈ ([(.outIbAx p, p.setWidth 16), (.outDxAx, s.dx)] : List (Instr × Word)),
      exec q.1 s = .next { s with
        trace := (if s.params.variant = .i8086 ∧ q.2.toNat % 2 = 0 then [.ioWrite16 q.2 s.ax]
          else [.ioWrite8 (q.2 + 1) (s.reg8 .ah), .ioWrite8 q.2 (s.reg8 .al)]) ++ s.trace })

/-! ## Strings -/

/-- R191 to R195: one execution of each string primitive, without a repeat prefix: the source element is at SI in DS or
the overriding segment, the destination element at DI in ES whatever the override, and the indexes used move by the
element's size, down when DF = 1. Which element CMPS and SCAS subtract is the spec's general knowledge (log 16), the
wrap of the indexes its decision D7 (log 13). -/
def Obligations.StringPrimitivesOnce : Prop :=
  ∀ s : State, s.undisturbed → s.cur.rep = none →
    (∀ q ∈ ([(.movsb, 1), (.movsw, 2)] : List (Instr × Word)),
      ∃ t, exec q.1 s = .next t ∧
        (s.lands (fun a => a = phys s.es s.di ∨ (q.2 = 2 ∧ a = phys s.es (s.di + 1))) →
          if q.2 = 1 then t.read8 s.es s.di = s.read8 (s.segOr .ds) s.si
          else t.read16 s.es s.di = s.read16 (s.segOr .ds) s.si) ∧
        State.memKept s t (fun a => a = phys s.es s.di ∨ (q.2 = 2 ∧ a = phys s.es (s.di + 1))) ∧
        t.si = (if s.flags.dF then s.si - q.2 else s.si + q.2) ∧
        t.di = (if s.flags.dF then s.di - q.2 else s.di + q.2) ∧ t.flags = s.flags ∧
        State.regsKept s t [.si, .di] ∧ State.segsKept s t [] ∧ State.othersKept s t ∧ State.goesOn s t) ∧
    (∀ q ∈ ([(.cmpsb, 1), (.cmpsw, 2)] : List (Instr × Word)),
      ∃ t, exec q.1 s = .next t ∧
        (if q.2 = 1 then flagsOfDifference (s.read8 (s.segOr .ds) s.si) (s.read8 s.es s.di) false s.flags t.flags
          else flagsOfDifference (s.read16 (s.segOr .ds) s.si) (s.read16 s.es s.di) false s.flags t.flags) ∧
        t.si = (if s.flags.dF then s.si - q.2 else s.si + q.2) ∧
        t.di = (if s.flags.dF then s.di - q.2 else s.di + q.2) ∧ t.mem = s.mem ∧
        State.regsKept s t [.si, .di] ∧ State.segsKept s t [] ∧ State.restKept s t ∧ State.goesOn s t) ∧
    (∀ q ∈ ([(.scasb, 1), (.scasw, 2)] : List (Instr × Word)),
      ∃ t, exec q.1 s = .next t ∧
        (if q.2 = 1 then flagsOfDifference (s.reg8 .al) (s.read8 s.es s.di) false s.flags t.flags
          else flagsOfDifference s.ax (s.read16 s.es s.di) false s.flags t.flags) ∧
        t.di = (if s.flags.dF then s.di - q.2 else s.di + q.2) ∧ t.mem = s.mem ∧ State.regsKept s t [.di] ∧
        State.segsKept s t [] ∧ State.restKept s t ∧ State.goesOn s t) ∧
    (∀ q ∈ ([(.lodsb, 1), (.lodsw, 2)] : List (Instr × Word)),
      ∃ t, exec q.1 s = .next t ∧
        (if q.2 = 1 then t.reg8 .al = s.read8 (s.segOr .ds) s.si ∧ t.reg8 .ah = s.reg8 .ah
          else t.ax = s.read16 (s.segOr .ds) s.si) ∧
        t.si = (if s.flags.dF then s.si - q.2 else s.si + q.2) ∧ t.flags = s.flags ∧ t.mem = s.mem ∧
        State.regsKept s t [.ax, .si] ∧ State.segsKept s t [] ∧ State.restKept s t ∧ State.goesOn s t) ∧
    (∀ q ∈ ([(.stosb, 1), (.stosw, 2)] : List (Instr × Word)),
      ∃ t, exec q.1 s = .next t ∧
        (s.lands (fun a => a = phys s.es s.di ∨ (q.2 = 2 ∧ a = phys s.es (s.di + 1))) →
          if q.2 = 1 then t.read8 s.es s.di = s.reg8 .al else t.read16 s.es s.di = s.ax) ∧
        State.memKept s t (fun a => a = phys s.es s.di ∨ (q.2 = 2 ∧ a = phys s.es (s.di + 1))) ∧
        t.di = (if s.flags.dF then s.di - q.2 else s.di + q.2) ∧ t.flags = s.flags ∧ State.regsKept s t [.di] ∧
        State.segsKept s t [] ∧ State.othersKept s t ∧ State.goesOn s t)

/-- R196: a string primitive with a repeat prefix, when nothing interrupts it. With CX = 0 it does nothing. Otherwise it
is the primitive once and CX less 1; then it ends if CX is 0, or after CMPS or SCAS if ZF differs from z, and else goes
on. That z does not matter to MOVS, LODS and STOS, and when ZF is looked at, are the spec's general knowledge (log 16).
-/
def Obligations.RepetitionFollowsTheLoop : Prop :=
  ∀ (s : State) (z : Bool), s.quiet → s.unrequested → s.busFree → s.settled → s.cur.cut = false → s.cur.rep = some z →
    ∀ q ∈ ([(.movsb, false), (.movsw, false), (.cmpsb, true), (.cmpsw, true), (.scasb, true), (.scasw, true),
        (.lodsb, false), (.lodsw, false), (.stosb, false), (.stosw, false)] : List (Instr × Bool)),
      (s.cx = 0 → exec q.1 s = .next s) ∧
      (s.cx ≠ 0 → ∃ u, exec q.1 { s with cur := { s.cur with rep := none } } = .next u ∧
        exec q.1 s =
          (if (q.2 = true ∧ u.flags.zF ≠ z) ∨ u.cx = 1 then .next { u with cx := u.cx - 1, cur := s.cur }
          else exec q.1 { u with cx := u.cx - 1, cur := s.cur }))

/-- R197, R201, R291, R279, R281: an NMI, INTR with IF = 1, or a trap that stands when a repeated string instruction has
done one repetition and goes on (after CMPS and SCAS, with ZF = z) is taken there, in the order of R287: the state is
that after one repetition, the offset of the last prefix byte is saved, and the bus lock has ended. If LOCK has held off
a bus request, the lock ends, the other master gets the bus, and the sampling is put off. That interrupts and the trap
are sampled between repetitions as at the end of an instruction is in the spec's decisions D12 and D23 (logs 20 and 21).
LOCK* is active during the INTA pair of an INTR (R281). The model's choices are that the lock of a locked repetition
goes on over the pair and ends with it (log 37), and the form of the put-off: the lock ended, the sampling kept in
`unsampled`, the instruction begun again at its first byte (log 30). -/
def Obligations.RepetitionIsInterruptedAtThePrefix : Prop :=
  ∀ (s : State) (z : Bool), s.quiet → s.busFree → s.settled → s.cur.rep = some z → 1 < s.cx.toNat →
    ∀ q ∈ ([(.movsb, false), (.movsw, false), (.cmpsb, true), (.cmpsw, true), (.scasb, true), (.scasw, true),
        (.lodsb, false), (.lodsw, false), (.stosb, false), (.stosw, false)] : List (Instr × Bool)),
      ∃ u c b, exec q.1 { s with cur := { s.cur with rep := none } } = .next u ∧ c = { u with cx := s.cx - 1 } ∧
        b = c.setLock false ∧
        ((q.2 = true → u.flags.zF = z) →
          (s.busRequest = none →
            (s.cur.tf0 = false →
              (s.nmiPending = true → ∃ t, exec q.1 s = .next t ∧ State.entered b t 2 s.cur.ipPrefix u.flags ∧
                t.nmiPending = false ∧ t.lock = false ∧ t.cur = { s.cur with cut := true, jumped := true }) ∧
              (s.nmiPending = false → s.pins.intrLine = true → s.flags.iF = true → ∃ t, exec q.1 s = .next t ∧
                State.entered (c.afterInta s.pins.intrType) t s.pins.intrType s.cur.ipPrefix u.flags ∧
                t.nmiPending = false ∧ t.lock = false ∧ t.cur = { s.cur with cut := true, jumped := true })) ∧
            (s.cur.tf0 = true →
              (s.nmiPending = false → s.pins.intrLine = false ∨ s.flags.iF = false →
                ∃ t, exec q.1 s = .next t ∧ State.entered b t 1 s.cur.ipPrefix u.flags ∧ t.lock = false ∧
                  t.cur = { s.cur with cut := true, jumped := true }) ∧
              (s.nmiPending = true → ∃ v t, exec q.1 s = .next t ∧ State.entered b v 2 s.cur.ipPrefix u.flags ∧
                State.entered v t 1 v.ip v.flags ∧ t.nmiPending = false ∧
                t.cur = { s.cur with cut := true, jumped := true }) ∧
              (s.nmiPending = false → s.pins.intrLine = true → s.flags.iF = true → ∃ v t, exec q.1 s = .next t ∧
                State.entered (c.afterInta s.pins.intrType) v s.pins.intrType s.cur.ipPrefix u.flags ∧
                State.entered v t 1 v.ip v.flags ∧ t.cur = { s.cur with cut := true, jumped := true }))) ∧
          (s.busRequest ≠ none →
            s.nmiPending = true ∨ (s.pins.intrLine = true ∧ s.flags.iF = true) ∨ s.cur.tf0 = true →
            ∃ t, exec q.1 s = .next t ∧ t.busReleased = s.busRequest ∧ t.lock = false ∧
              t.unsampled = some { tf0 := s.cur.tf0, seq := false, resume := s.cur.ip0, relock := false } ∧
              t.ip = s.cur.ipPrefix ∧ t.flags = u.flags ∧ t.mem = u.mem ∧ State.regsKept b t [] ∧
              State.segsKept b t [] ∧ t.nmiPending = s.nmiPending ∧ t.cur = { s.cur with cut := true, jumped := true }))

/-- From R195, R196: REP STOSB with DF = 0, when nothing interrupts it, fills the CX bytes from ES:DI on with AL, as far
as they are RAM, leaves CX zero and DI behind the block, and changes nothing else. -/
def Obligations.RepeatedStoreFillsTheBlock : Prop :=
  ∀ (s : State) (z : Bool), s.quiet → s.unrequested → s.busFree → s.settled → s.cur.cut = false → s.cur.rep = some z →
    s.flags.dF = false →
    ∃ t, exec .stosb s = .next t ∧ t.cx = 0 ∧ t.di = s.di + s.cx ∧
      (∀ k < s.cx.toNat, s.params.kindAt (phys s.es (s.di + BitVec.ofNat 16 k)) = .ram →
        t.read8 s.es (s.di + BitVec.ofNat 16 k) = s.reg8 .al) ∧
      State.memKept s t (fun a => ∃ k, k < s.cx.toNat ∧ a = phys s.es (s.di + BitVec.ofNat 16 k)) ∧
      t.flags = s.flags ∧ State.regsKept s t [.cx, .di] ∧ State.segsKept s t [] ∧ State.othersKept s t ∧ State.goesOn s t

/-- From R193, R196: REPNE SCASB with DF = 0, when nothing interrupts it, stops behind the first of the CX bytes at
ES:DI that equals AL, with ZF = 1 and CX counting the bytes not examined; if none does it ends with CX = 0 and, unless
CX was 0, ZF = 0. That ZF is looked at after CX is decremented is the spec's general knowledge (log 16). -/
def Obligations.RepeatedScanStopsAtTheFirstMatch : Prop :=
  ∀ s : State, s.quiet → s.unrequested → s.busFree → s.settled → s.cur.cut = false → s.cur.rep = some false →
    s.flags.dF = false →
    ∃ t, exec .scasb s = .next t ∧
      (∀ k < s.cx.toNat, s.read8 s.es (s.di + BitVec.ofNat 16 k) = s.reg8 .al →
        (∀ j < k, s.read8 s.es (s.di + BitVec.ofNat 16 j) ≠ s.reg8 .al) →
        t.cx = s.cx - BitVec.ofNat 16 (k + 1) ∧ t.di = s.di + BitVec.ofNat 16 (k + 1) ∧ t.flags.zF = true) ∧
      ((∀ j < s.cx.toNat, s.read8 s.es (s.di + BitVec.ofNat 16 j) ≠ s.reg8 .al) →
        t.cx = 0 ∧ t.di = s.di + s.cx ∧ (s.cx ≠ 0 → t.flags.zF = false) ∧ (s.cx = 0 → t.flags = s.flags)) ∧
      t.mem = s.mem ∧ controlKept s.flags t.flags ∧ State.regsKept s t [.cx, .di] ∧ State.segsKept s t [] ∧
      State.restKept s t ∧ State.goesOn s t

/-! ## Program transfer -/

/-- R219 to R235: each conditional jump whose condition holds goes to the next instruction's offset plus the signed
byte, modulo 65536, and discards the queue; one whose condition does not hold changes nothing. -/
def Obligations.ConditionalJumps : Prop :=
  ∀ (s : State) (inc : Byte),
    ∀ q ∈ ([(.jo inc, s.flags.oF = true), (.jno inc, s.flags.oF = false), (.jb inc, s.flags.cF = true),
        (.jnb inc, s.flags.cF = false), (.je inc, s.flags.zF = true), (.jne inc, s.flags.zF = false),
        (.jbe inc, s.flags.cF = true ∨ s.flags.zF = true), (.jnbe inc, s.flags.cF = false ∧ s.flags.zF = false),
        (.js inc, s.flags.sF = true), (.jns inc, s.flags.sF = false), (.jp inc, s.flags.pF = true),
        (.jnp inc, s.flags.pF = false), (.jl inc, s.flags.sF ≠ s.flags.oF), (.jnl inc, s.flags.sF = s.flags.oF),
        (.jle inc, s.flags.sF ≠ s.flags.oF ∨ s.flags.zF = true),
        (.jnle inc, s.flags.sF = s.flags.oF ∧ s.flags.zF = false)] : List (Instr × Prop)),
      (q.2 → ∃ t, exec q.1 s = .next t ∧ State.wentTo s t s.cs (BitVec.ofInt 16 (s.ip.toNat + inc.toInt))) ∧
      (¬q.2 → exec q.1 s = .next s)

/-- From R150, R219 to R235: after CMP the conditional jumps compare: JE and JNE by equality, JB, JNB, JBE and JNBE as
unsigned, JL, JNL, JLE and JNLE as signed numbers. -/
def Obligations.JumpsAfterCompare : Prop :=
  ∀ (s : State) (e : Ev) (r : Reg16) (inc : Byte),
    ∃ t, exec (.cmpEvGv e r) s = .next t ∧
      ∀ q ∈ ([(.je inc, s.readEv e = s.reg16 r), (.jne inc, s.readEv e ≠ s.reg16 r),
          (.jb inc, (s.readEv e).toNat < (s.reg16 r).toNat), (.jnb inc, (s.reg16 r).toNat ≤ (s.readEv e).toNat),
          (.jbe inc, (s.readEv e).toNat ≤ (s.reg16 r).toNat), (.jnbe inc, (s.reg16 r).toNat < (s.readEv e).toNat),
          (.jl inc, (s.readEv e).toInt < (s.reg16 r).toInt), (.jnl inc, (s.reg16 r).toInt ≤ (s.readEv e).toInt),
          (.jle inc, (s.readEv e).toInt ≤ (s.reg16 r).toInt), (.jnle inc, (s.reg16 r).toInt < (s.readEv e).toInt)] :
          List (Instr × Prop)),
        (q.2 → ∃ u, exec q.1 t = .next u ∧ u.ip = t.ip + inc.signExtend 16) ∧ (¬q.2 → exec q.1 t = .next t)

/-- R236 to R239: LOOP, LOOPE and LOOPNE take 1 from CX without touching a flag and jump while CX is not 0 and ZF is as
they ask; JCXZ jumps when CX is 0 and leaves CX alone. "That CX is decremented before it is tested, that the decrement
changes no flag, and that LOOPE/LOOPNE test ZF after the decrement without changing it" are the spec's general knowledge
(spec/44_control_transfer.md section 6; log 36). -/
def Obligations.LoopsCountDown : Prop :=
  ∀ (s u : State) (inc : Byte), u = { s with cx := s.cx - 1 } →
    (∀ q ∈ ([(.loop inc, s.cx ≠ 1), (.loope inc, s.cx ≠ 1 ∧ s.flags.zF = true),
        (.loopne inc, s.cx ≠ 1 ∧ s.flags.zF = false)] : List (Instr × Prop)),
      (q.2 → ∃ t, exec q.1 s = .next t ∧ State.wentTo u t s.cs (BitVec.ofInt 16 (s.ip.toNat + inc.toInt))) ∧
      (¬q.2 → exec q.1 s = .next u)) ∧
    (s.cx = 0 → ∃ t, exec (.jcxz inc) s = .next t ∧
      State.wentTo s t s.cs (BitVec.ofInt 16 (s.ip.toNat + inc.toInt))) ∧
    (s.cx ≠ 0 → exec (.jcxz inc) s = .next s)

/-- R214 to R218: each JMP goes to its target, discards the queue and changes nothing else. -/
def Obligations.JumpsReachTheirTarget : Prop :=
  ∀ (s : State) (inc8 : Byte) (w v : Word) (e : Ev) (m : MemOp), s.undisturbed →
    ∀ q ∈ ([(.jmpNear w, s.cs, BitVec.ofNat 16 (s.ip.toNat + w.toNat)),
        (.jmpShort inc8, s.cs, BitVec.ofInt 16 (s.ip.toNat + inc8.toInt)), (.jmpEv e, s.cs, s.readEv e),
        (.jmpFar w v, v, w),
        (.jmpMem32 m, s.read16 (s.segOf m) (s.ea m + 2), s.read16 (s.segOf m) (s.ea m))] :
        List (Instr × Word × Word)),
      ∃ t, exec q.1 s = .next t ∧ State.wentTo s t q.2.1 q.2.2

/-- R206 to R209: each CALL pushes the offset of the next instruction, after CS if it is intersegment, reads its target
before it pushes, goes there and discards the queue. Nothing else changes. What is pushed in which order, and that the
target is read first, are the spec's general knowledge (log 16). -/
def Obligations.CallsSaveTheReturn : Prop :=
  ∀ (s : State) (w v : Word) (e : Ev) (m : MemOp), s.undisturbed →
    ∀ q ∈ ([(.callNear w, [s.ip], s.cs, BitVec.ofNat 16 (s.ip.toNat + w.toNat)), (.callEv e, [s.ip], s.cs, s.readEv e),
        (.callFar w v, [s.cs, s.ip], v, w),
        (.callMem32 m, [s.cs, s.ip], s.read16 (s.segOf m) (s.ea m + 2), s.read16 (s.segOf m) (s.ea m))] :
        List (Instr × List Word × Word × Word)),
      ∃ t, exec q.1 s = .next t ∧ State.pushed s t q.2.1 ∧ t.cs = q.2.2.1 ∧ t.ip = q.2.2.2 ∧ State.transfers s t ∧
        t.flags = s.flags ∧ State.regsKept s t [.sp] ∧ State.segsKept s t [.cs] ∧ State.othersKept s t

/-- R210 to R213: RET pops IP, then CS if it is intersegment, then adds the pop-value to SP, and discards the queue.
Nothing else changes. What is popped in which order is the spec's general knowledge (log 16). -/
def Obligations.ReturnsPopTheTarget : Prop :=
  ∀ (s : State) (n : Word), s.undisturbed →
    ∀ q ∈ ([(.ret, s.cs, 2), (.retPop n, s.cs, 2 + n), (.retf, s.read16 s.ss (s.sp + 2), 4),
        (.retfPop n, s.read16 s.ss (s.sp + 2), 4 + n)] : List (Instr × Word × Word)),
      ∃ t, exec q.1 s = .next t ∧ t.ip = s.read16 s.ss s.sp ∧ t.cs = q.2.1 ∧ t.sp = s.sp + q.2.2 ∧ State.transfers s t ∧
        t.flags = s.flags ∧ t.mem = s.mem ∧ State.regsKept s t [.sp] ∧ State.segsKept s t [.cs] ∧ State.restKept s t

/-! ## Interrupts -/

/-- R240, R241, R242, R280: INT n, INT 3, and INTO with OF = 1, enter the routine of their type: FLAGS, CS and the next
instruction's offset are pushed, IF and TF cleared, CS:IP taken from the vector. INTO with OF = 0 does nothing. The
vector is read before the pushes, as R280 and decision D23 have it (log 21). -/
def Obligations.SoftwareInterruptsEnterTheirType : Prop :=
  ∀ s : State,
    (s.undisturbed →
      ∀ n : Byte, ∀ q ∈ ([(.intIb n, n, True), (.int3, 3, True), (.into, 4, s.flags.oF = true)] :
          List (Instr × Byte × Prop)),
        q.2.2 → ∃ t, exec q.1 s = .next t ∧ State.entered s t q.2.1 s.ip s.flags ∧ State.systemKept s t ∧
          t.inhibitInt = s.inhibitInt ∧ t.ioIn = s.ioIn ∧ t.cur = { s.cur with swSeq := true, jumped := true }) ∧
    (s.flags.oF = false → exec .into s = .next s)

/-- R243: IRET pops IP, CS and FLAGS in that order, takes all nine flags, and discards the queue. Nothing else changes.
The order is the spec's general knowledge (log 16). -/
def Obligations.InterruptReturnRestores : Prop :=
  ∀ s : State, s.undisturbed →
    ∃ t, exec .iret s = .next t ∧ t.ip = s.read16 s.ss s.sp ∧ t.cs = s.read16 s.ss (s.sp + 2) ∧
      carriesFlags (s.read16 s.ss (s.sp + 4)) t.flags ∧ t.sp = s.sp + 6 ∧ State.transfers s t ∧ t.mem = s.mem ∧
      State.regsKept s t [.sp] ∧ State.segsKept s t [.cs] ∧ State.restKept s t

/-- From R240, R243, R288: a routine that is only IRET whose stack is RAM, gives back CS, IP, SP, every flag and every
register; of memory only the six bytes below the stack top have changed. IRET's order is the spec's general knowledge
(log 16). -/
def Obligations.InterruptThenReturnRoundTrip : Prop :=
  ∀ (s : State) (n : Byte), s.undisturbed →
    s.lands (fun a => ∃ k : Nat, 0 < k ∧ k ≤ 6 ∧ a = phys s.ss (s.sp - BitVec.ofNat 16 k)) →
    ∃ t u, exec (.intIb n) s = .next t ∧ exec .iret t = .next u ∧ u.ip = s.ip ∧ u.flags = s.flags ∧
      State.regsKept s u [] ∧ State.segsKept s u [] ∧
      State.memKept s u (fun a => ∃ k : Nat, 0 < k ∧ k ≤ 6 ∧ a = phys s.ss (s.sp - BitVec.ofNat 16 k))

/-! ## Processor control -/

/-- R250 to R255: CLC, CMC, STC, CLD, STD and CLI write their one flag and change nothing else. -/
def Obligations.FlagInstructionsWriteOneFlag : Prop :=
  ∀ s : State,
    ∀ q ∈ ([(.clc, { s.flags with cF := false }), (.stc, { s.flags with cF := true }),
        (.cmc, { s.flags with cF := !s.flags.cF }), (.cld, { s.flags with dF := false }),
        (.std, { s.flags with dF := true }), (.cli, { s.flags with iF := false })] : List (Instr × Flags)),
      exec q.1 s = .next { s with flags := q.2 }

/-- R256, R258, R259, R260, R263: what STI, HLT, WAIT, ESC and NOP do before their end. STI sets IF and, under
`sti_delay` with IF = 0 before it, holds off interrupts at its own end. HLT halts; WAIT with TEST* low, NOP and ESC with
a register change nothing; ESC with memory shows the host the read of a word, in one bus cycle at an even address of an
8086 and else byte by byte (R54); WAIT with TEST* high waits with IP at its first byte. These rest on the spec's
decisions D29, D14 and D15 (logs 22, 23 and 24). -/
def Obligations.ProcessorControlCompletes : Prop :=
  ∀ (s : State) (x y : BitVec 3) (r : Reg16) (m : MemOp),
    exec .nop s = .next s ∧
      exec .sti s = .next { s with
        flags := { s.flags with iF := true }
        inhibitInt := s.inhibitInt || (s.params.stiDelay && !s.flags.iF) } ∧
      exec .hlt s = .next { s with run := .halted } ∧ exec (.esc x y (.reg r)) s = .next s ∧
      (∀ a b : Nat, a = phys (s.segOf m) (s.ea m) → b = phys (s.segOf m) (s.ea m + 1) →
        exec (.esc x y (.mem m)) s = .next { s with
          trace := (if s.params.variant = .i8086 ∧ a % 2 = 0 then [.dummyRead16 a]
            else [.dummyRead8 b, .dummyRead8 a]) ++ s.trace }) ∧
      (s.pins.testLow = true → exec .wait s = .next s) ∧
      (s.pins.testLow = false → exec .wait s = .next { s with
        run := .waiting s.ip, ip := s.cur.ip0, cur := { s.cur with tf0 := false } })

/-- R96, R97, R98, R99: a prefix is remembered for the instruction it precedes, a later one of its kind in place of an
earlier one, with the offset of its byte; no register, flag or byte of memory changes. LOCK locks the bus, which the
host sees on the pin LOCK* in maximum mode only (R3, R262). That the later prefix counts is the spec's decision D10 (log
26). -/
def Obligations.PrefixesAreRemembered : Prop :=
  ∀ s : State,
    (∀ q ∈ ([(.segEs, .es), (.segCs, .cs), (.segSs, .ss), (.segDs, .ds)] : List (Instr × SReg)),
      exec q.1 s = .next { s with cur := { s.cur with segOverride := some q.2, ipPrefix := s.ip - 1 } }) ∧
    exec .lock s = .next { s with
      lock := true
      trace := (if s.params.busMode = .maximum ∧ s.lock = false then [.lockPin true] else []) ++ s.trace
      cur := { s.cur with ipPrefix := s.ip - 1 } } ∧
    (∀ q ∈ ([(.repne, false), (.rep, true)] : List (Instr × Bool)),
      exec q.1 s = .next { s with cur := { s.cur with rep := some q.2, ipPrefix := s.ip - 1 } })

/-- R102, R104, R105, R106: an encoding without behaviour is refused by its name in every state: the spec's decisions
D3, D17, D18 and D19 (log 27). Every other instruction completes in every state. -/
def Obligations.ReservedEncodingsAreRefusedAndOthersComplete : Prop :=
  ∀ (i : Instr) (s : State),
    match reservedEncoding i with
    | some r => exec i s = .refused r
    | none => ∃ t, exec i s = .next t

/-! ## The step -/

/-- R306, R87: a step in a quiet running machine is `exec` of the instruction that the bytes at CS:IP decode to, alone
or behind one prefix, with IP behind it, and then the end of the instruction. A reserved encoding there stops the step
by its name. -/
def Obligations.StepRunsTheDecodedInstruction : Prop :=
  (∀ (s : State) (i : Instr) (t : State), s.runs i t → step s = .next (t.finish s)) ∧
  (∀ (s : State) (i : Instr) (rest : List Byte) (r : Refusal), s.quiet → s.busFree → s.settled → s.run = .running →
    decode s.fetchBytes = .instr i rest → reservedEncoding i = some r → step s = .refused r)

/-- R279, R281, R287, R289, R292, R306 steps 6 and 7: at the end of an instruction that has loaded a segment register
nothing is sampled. At any other end, an NMI, else INTR with IF = 1, is taken with the current IP saved; a trap is due
too if TF was 1 when the instruction began, and is then taken from the state the request left, unless the instruction
was itself an interrupt. A WAIT that begins to wait is read again before the request is served. The bus lock has ended,
but for a locked HLT or WAIT that idles. If another master asks for the bus, what would be taken waits for it (R62).
The procedure is the spec's general knowledge and its decisions D11, D12 and D23 (logs 19, 20 and 21). LOCK* is active
during the INTA pair of an INTR (R281). The model's choices are that it goes inactive at the end of a locked
instruction before the pair, and of an idling one only with the pair (log 37), and the form of the put-off: the trap
waiting too, the lock ended, the sampling kept in `unsampled` (log 30). -/
def Obligations.InterruptsAtTheEndOfAnInstruction : Prop :=
  ∀ (s : State) (i : Instr) (t b : State), s.runs i t → t.quiet → t.resetAsked = false → t.cur.cut = false →
    b = t.setLock (t.lock && t.run != .running) →
    ∃ w r, step s = .next w ∧ State.refetched b r ∧ w.inhibitInt = false ∧ w.cur = .idle ∧
      (t.run = .running → t.cur.tf0 = s.flags.tF) ∧
      (t.inhibitInt = true ∨ t.unrequested →
        w.ip = t.ip ∧ w.flags = t.flags ∧ w.mem = t.mem ∧ w.nmiPending = t.nmiPending ∧ w.trace = b.trace ∧
          w.lock = b.lock ∧ w.run = t.run ∧ State.regsKept t w [] ∧ State.segsKept t w []) ∧
      (t.inhibitInt = false → t.busRequest = none →
        (t.cur.tf0 = true → t.nmiPending = false → t.pins.intrLine = false ∨ t.flags.iF = false →
          State.entered (b.setLock false) w 1 t.ip t.flags) ∧
        (t.cur.tf0 = false ∨ t.cur.swSeq = true →
          (t.nmiPending = true → State.entered (r.setLock false) w 2 t.ip t.flags ∧ w.nmiPending = false) ∧
          (t.nmiPending = false → t.pins.intrLine = true → t.flags.iF = true →
            State.entered (r.afterInta t.pins.intrType) w t.pins.intrType t.ip t.flags)) ∧
        (t.cur.tf0 = true → t.cur.swSeq = false →
          (t.nmiPending = true → ∃ u, State.entered (r.setLock false) u 2 t.ip t.flags ∧
            State.entered u w 1 u.ip u.flags) ∧
          (t.nmiPending = false → t.pins.intrLine = true → t.flags.iF = true →
            ∃ u, State.entered (r.afterInta t.pins.intrType) u t.pins.intrType t.ip t.flags ∧
              State.entered u w 1 u.ip u.flags))) ∧
      (t.inhibitInt = false → t.busRequest ≠ none →
        t.cur.tf0 = true ∨ t.nmiPending = true ∨ (t.pins.intrLine = true ∧ t.flags.iF = true) →
        w.unsampled = some { tf0 := t.cur.tf0, seq := t.cur.swSeq, resume := t.ip, relock := b.lock } ∧
          w.lock = false ∧ w.trace = (b.setLock false).trace ∧ w.ip = t.ip ∧ w.flags = t.flags ∧ w.mem = t.mem ∧
          w.nmiPending = t.nmiPending ∧ w.run = t.run ∧ State.regsKept t w [] ∧ State.segsKept t w [])

/-- R258, R259, R279, R281, R292, R293: while halted, or waiting with TEST* high, a step takes an NMI, else INTR with
IF = 1, with IP as it stands saved, a WAIT having been read again before, from its first byte to its end, as a device
hears, and else does nothing. A bus request that LOCK has held off comes before the interrupt, which waits for it. The
order and the saved offset are the spec's decisions D13 and D14 (log 22). LOCK* is active during the INTA pair of an
INTR (R281). The model's choices are that the lock goes on over the pair and ends with it (log 37), and the form of the
put-off: the lock ended, the sampling kept in `unsampled` (log 30). -/
def Obligations.HaltedAndWaitingSteps : Prop :=
  ∀ s b : State, s.quiet → s.busFree → s.settled → s.cur = .idle → b = s.setLock false →
    (s.run = .halted ∨ ∃ next, s.run = .waiting next ∧ s.pins.testLow = false) →
      (s.busRequest = none → ∃ r, State.refetched s r ∧
        (s.nmiPending = true → ∃ t, step s = .next t ∧ State.entered (r.setLock false) t 2 s.ip s.flags ∧ t.nmiPending = false ∧
          t.lock = false) ∧
        (s.nmiPending = false → s.pins.intrLine = true → s.flags.iF = true → ∃ t, step s = .next t ∧
          State.entered (r.afterInta s.pins.intrType) t s.pins.intrType s.ip s.flags ∧ t.lock = false)) ∧
      (s.busRequest ≠ none → s.nmiPending = true ∨ (s.pins.intrLine = true ∧ s.flags.iF = true) →
        step s = .next { b with
          unsampled := some { tf0 := false, seq := false, resume := s.ip, relock := s.lock } }) ∧
      (s.nmiPending = false → s.pins.intrLine = false ∨ s.flags.iF = false → step s = .next s)

/-- R259, R281, R287: a waiting CPU that finds TEST* low goes on behind the WAIT, and its lock ends; the trap, NMI and
INTR are then sampled there, in the order of R287, with the offset of the next instruction saved. If LOCK has held off a
bus request, the sampling waits for it (R279). That the trap comes then is the spec's decision D14 (log 22). LOCK* is
active during the INTA pair of an INTR (R281). The model's choices are that the WAIT's own lock has ended before the
pair (log 37), and the form of the put-off: the trap waiting too, the sampling kept in `unsampled` (log 30). -/
def Obligations.WaitEndsWhenTestIsLow : Prop :=
  ∀ (s b : State) (next : Word), s.quiet → s.busFree → s.settled → s.cur = .idle → s.run = .waiting next →
    s.pins.testLow = true → b = { s.setLock false with run := .running, ip := next } →
    (s.flags.tF = false → s.nmiPending = false → s.pins.intrLine = false ∨ s.flags.iF = false → step s = .next b) ∧
    (s.busRequest = none →
      (s.flags.tF = false →
        (s.nmiPending = true → ∃ t, step s = .next t ∧ State.entered b t 2 next s.flags ∧ t.nmiPending = false) ∧
        (s.nmiPending = false → s.pins.intrLine = true → s.flags.iF = true → ∃ t, step s = .next t ∧
          State.entered (b.afterInta s.pins.intrType) t s.pins.intrType next s.flags)) ∧
      (s.flags.tF = true →
        (s.nmiPending = false → s.pins.intrLine = false ∨ s.flags.iF = false →
          ∃ t, step s = .next t ∧ State.entered b t 1 next s.flags) ∧
        (s.nmiPending = true → ∃ u t, step s = .next t ∧ State.entered b u 2 next s.flags ∧
          State.entered u t 1 u.ip u.flags ∧ t.nmiPending = false) ∧
        (s.nmiPending = false → s.pins.intrLine = true → s.flags.iF = true → ∃ u t, step s = .next t ∧
          State.entered (b.afterInta s.pins.intrType) u s.pins.intrType next s.flags ∧
          State.entered u t 1 u.ip u.flags))) ∧
    (s.busRequest ≠ none →
      s.flags.tF = true ∨ s.nmiPending = true ∨ (s.pins.intrLine = true ∧ s.flags.iF = true) →
      step s = .next { b with
        unsampled := some { tf0 := s.flags.tF, seq := false, resume := next, relock := false } })

/-- R62, R279, R281, R259, R292, R3: in every run state but reset, a bus request that LOCK does not hold off gives the
other master the bus, HLDA telling so in minimum mode and a grant pulse in maximum mode, RQ*/GT0* before RQ*/GT1* when
both ask before a grant, and no instruction and no interrupt happens; but a WAIT that waits ends if TEST* is low, and
what is then due waits for the bus. A master that gives the bus back and asks again before the CPU looks has lost it in
between: HLDA falls and rises again, and RQ*/GT0* comes before a second request of RQ*/GT1*. When the bus is back, by
the other master's next event or because LOCK keeps it, what was put off is sampled first, with IP as it stands saved
and a WAIT that waits read again before a request is served; if nothing is due any more the CPU goes on where it was.
The model's choices are that a hold begins between steps and no instruction runs in one (R62 and R34 let the CPU go on
from its queue), the form of the put-off, that a WAIT left for an interrupt does not examine TEST* before the bus is
back, and is read again only then, that LOCK is in force again when the request has gone (logs 30 and 38); that giving
the bus back ends the grant at once (log 37) and that two events of one entry happen in their order between two looks
(log 32), of which R62 says nothing; and that a lock still in force goes on over the INTA pair and ends with it (log
37). -/
def Obligations.BusRequestsComeFirst : Prop :=
  (∀ (s b : State) (m : BusMaster) (call : HostCall), s.quiet → s.resetAsked = false → s.run ≠ .inReset →
    s.lock = false →
    (s.params.busMode = .minimum ∧ s.pins.hold = true ∧ m = .hold ∧ call = .hlda true) ∨
      (s.params.busMode = .maximum ∧ s.pins.rq0 = true ∧ (s.pins.rq1 = false ∨ s.busReleased ≠ some (.line .gt1)) ∧
        m = .line .gt0 ∧ call = .grant .gt0) ∨
      (s.params.busMode = .maximum ∧ s.pins.rq1 = true ∧ (s.pins.rq0 = false ∨ s.busReleased = some (.line .gt1)) ∧
        m = .line .gt1 ∧ call = .grant .gt1) →
    b = { s with
      busReleased := some m
      trace := (if s.busReleased = some m then [] else [call]) ++ s.trace } →
    ((∀ next, s.run = .waiting next → s.pins.testLow = false ∨ s.unsampled ≠ none) → step s = .next b) ∧
    (∀ next, s.run = .waiting next → s.pins.testLow = true → s.unsampled = none →
      (s.flags.tF = false → s.nmiPending = false → s.pins.intrLine = false ∨ s.flags.iF = false →
        step s = .next { b with run := .running, ip := next }) ∧
      (s.flags.tF = true ∨ s.nmiPending = true ∨ (s.pins.intrLine = true ∧ s.flags.iF = true) →
        step s = .next { b with
          run := .running
          ip := next
          unsampled := some { tf0 := s.flags.tF, seq := false, resume := next, relock := false } }))) ∧
  (∀ s : State, s.masters = [] → s.resetAsked = false → s.run ≠ .inReset → s.lock = false →
    (s.params.busMode = .maximum → s.busReleased = some (.line .gt1) → s.pins.rq0 = true →
      s.outside = [[.rq .gt1 false, .rq .gt1 true]] →
      ∃ t, step s = .next t ∧ t.busReleased = some (.line .gt0) ∧ t.trace = .grant .gt0 :: s.trace) ∧
    (s.params.busMode = .minimum → s.busReleased = some .hold → s.outside = [[.hold false, .hold true]] →
      ∃ t, step s = .next t ∧ t.busReleased = some .hold ∧ t.trace = .hlda true :: .hlda false :: s.trace)) ∧
  ∀ s b : State, State.busComesBack s b →
    step s = step b ∧
    (∀ w : Sampling, s.unsampled = some w → s.cur = .idle → ∃ r, State.refetched b r ∧
      (w.tf0 = false → s.nmiPending = false → s.pins.intrLine = false ∨ s.flags.iF = false →
        step s = .next { b.setLock w.relock with
          unsampled := none
          ip := w.resume
          queue := if w.resume = s.ip then s.queue else []
          prefetched := if w.resume = s.ip then s.prefetched else 0 }) ∧
      (w.tf0 = false ∨ w.seq = true →
        (s.nmiPending = true → ∃ t, step s = .next t ∧ State.entered (r.setLock false) t 2 s.ip s.flags ∧
          t.nmiPending = false ∧ t.unsampled = none) ∧
        (s.nmiPending = false → s.pins.intrLine = true → s.flags.iF = true → ∃ t, step s = .next t ∧
          State.entered (r.afterInta s.pins.intrType) t s.pins.intrType s.ip s.flags ∧
          t.unsampled = none)) ∧
      (w.tf0 = true → s.nmiPending = false → s.pins.intrLine = false ∨ s.flags.iF = false →
        ∃ t, step s = .next t ∧ State.entered (b.setLock false) t 1 s.ip s.flags ∧ t.unsampled = none) ∧
      (w.tf0 = true → w.seq = false →
        (s.nmiPending = true → ∃ u t, step s = .next t ∧ State.entered (r.setLock false) u 2 s.ip s.flags ∧
          State.entered u t 1 u.ip u.flags ∧ t.nmiPending = false ∧ t.unsampled = none) ∧
        (s.nmiPending = false → s.pins.intrLine = true → s.flags.iF = true → ∃ u t, step s = .next t ∧
          State.entered (r.afterInta s.pins.intrType) u s.pins.intrType s.ip s.flags ∧
          State.entered u t 1 u.ip u.flags ∧ t.unsampled = none)))

/-- R310, R312, R315, R31, R277: in every run state a high RESET stops execution, loses a pending NMI and makes HLDA and
LOCK* inactive; when it has gone low CS:IP is FFFFH:0000H, every flag and the other segment registers are 0, the queue
is empty and the CPU runs. The general registers may hold anything; memory, ports and pins are untouched. Every bus
request that is present then comes before the first fetch, also that of RQ*/GT1* behind that of RQ*/GT0*, so that what
the other masters write is what is fetched. An NMI edge is latched, once however many come, unless RESET is high; one
that comes after RESET has gone low is pending when the CPU runs. Of INTR, TEST* and HOLD only the last level counts.
Beyond CS, IP and IF the values are the spec's decision D2 (logs 4 and 12); the latch is its decision D22 (log 28). The
model's choices are that RESET's rise is remembered until the next look (log 31), and that the events of one entry
happen in their order between two looks, so that of a level only the last value is seen (log 32). -/
def Obligations.ResetLine : Prop :=
  (∀ s : State, s.quiet →
    (s.resetAsked = true → ∃ t, step s = .next t ∧ t.run = .inReset ∧ (s.pins.reset = true → t.nmiPending = false) ∧
      t.mem = s.mem ∧ t.pins = s.pins ∧ t.resetSeen = false ∧ t.busReleased = none ∧ t.lock = false ∧
      (s.lock = false → t.trace = (if s.busReleased = some .hold then [.hlda false] else []) ++ s.trace) ∧
      (s.busReleased = none →
        t.trace = (if s.params.busMode = .maximum ∧ s.lock = true then [.lockPin false] else []) ++ s.trace)) ∧
    (s.resetAsked = false → s.run = .inReset → ∃ t, step s = .next t ∧ t.run = .running ∧ t.cs = 0xFFFF ∧ t.ip = 0 ∧
      t.es = 0 ∧ t.ss = 0 ∧ t.ds = 0 ∧ isFlagsImage 0xF002 t.flags ∧ t.nmiPending = s.nmiPending ∧
      t.inhibitInt = false ∧ t.queue = [] ∧ t.prefetched = 0 ∧ t.mem = s.mem ∧ t.trace = s.trace ∧ t.pins = s.pins ∧
      (t.busRequest ≠ none → ∀ (cells : List Host.Cell) (rest : List (List Host.Cell)), ∃ w,
        step { t with masters := cells :: rest } = .next w ∧ w.busReleased = t.busRequest ∧
          w.mem = Memory.writeAll s.params s.mem cells ∧ w.cs = 0xFFFF ∧ w.ip = 0 ∧
          ∀ k, w.fetchByte k = w.read8 0xFFFF (BitVec.ofNat 16 k)) ∧
      (s.params.busMode = .maximum → s.pins.rq0 = true → s.pins.rq1 = true → ∃ u v, step t = .next u ∧
        step { u with outside := [[.rq .gt0 false]] } = .next v ∧
        u.busReleased = some (.line .gt0) ∧ v.busReleased = some (.line .gt1) ∧
          ∀ (cells : List Host.Cell) (rest : List (List Host.Cell)), ∃ w,
            step { v with masters := cells :: rest } = .next w ∧ w.busReleased = some (.line .gt1) ∧
              w.mem = Memory.writeAll s.params s.mem cells ∧ w.cs = 0xFFFF ∧ w.ip = 0 ∧
              ∀ k, w.fetchByte k = w.read8 0xFFFF (BitVec.ofNat 16 k)))) ∧
  (∀ (s : State) (es pre post : List PinEvent) (rest : List (List PinEvent)), s.outside = es :: rest →
    ((∀ high, .reset high ∉ es) → s.look.pins.reset = s.pins.reset ∧
      (s.look.nmiPending = true ↔ s.nmiPending = true ∨ (s.pins.reset = false ∧ .nmiEdge ∈ es))) ∧
    (es = pre ++ .reset true :: post → (∀ high, .reset high ∉ post) →
      s.look.pins.reset = true ∧ s.look.nmiPending = false) ∧
    (es = pre ++ .reset false :: post → (∀ high, .reset high ∉ post) →
      s.look.pins.reset = false ∧ (.nmiEdge ∈ post → s.look.nmiPending = true)) ∧
    (∀ level type, es = pre ++ .intr level type :: post → (∀ l n, .intr l n ∉ post) →
      s.look.pins.intrLine = level ∧ s.look.pins.intrType = type) ∧
    (∀ low, es = pre ++ .test low :: post → (∀ l, .test l ∉ post) → s.look.pins.testLow = low) ∧
    (∀ request, es = pre ++ .hold request :: post → (∀ r, .hold r ∉ post) → s.look.pins.hold = request) ∧
    (s.run = .inReset → s.look.resetAsked = false → ∃ t, step s = .next t ∧ t.run = .running ∧
      t.nmiPending = s.look.nmiPending))

/-- R57, R58, R322: after an instruction in sequence each of the 6 or 4 bytes behind it is fetched as it would have
been, or as it was in memory before the instruction; every later byte as it is in memory. After a transfer of control
every byte is fetched as it is in memory; the statements on jumps, calls, returns and interrupts say that `cur.jumped`
notes each transfer, and those on other instructions that it stays. To execute the next `n` bytes the CPU reads them,
and some number of bytes beyond them up to the queue's size, in ascending order, but none that it has read before; the
host hears every one that is in a device, whether it is then executed or discarded, a word at a time only at even
addresses of an 8086. What has been read stays read until it is executed or control is transferred. The first part is
the spec's decision D21; that a byte stored to twice never executes as the value in between is the model's choice (log
9), and so is that the bytes beyond are read before the instruction's own bus cycles (log 38). -/
def Obligations.PrefetchedBytesAreOldOrNew : Prop :=
  (∀ (s : State) (i : Instr) (t : State), s.runs i t → t.quiet → t.inhibitInt = true ∨ t.unrequested → t.cur.cut = false →
    ∃ w, step s = .next w ∧ w.ip = t.ip ∧ w.cs = t.cs ∧ w.mem = t.mem ∧
      w.prefetched = (if t.cur.jumped then 0 else t.prefetched) ∧
      (t.cur.jumped = true → ∀ k, w.fetchByte k = t.read8 t.cs (t.ip + BitVec.ofNat 16 k)) ∧
      (t.cur.jumped = false → t.run = .running →
        (∀ k < t.queueSize, w.fetchByte k = t.fetchByte k ∨ w.fetchByte k = s.read8 t.cs (t.ip + BitVec.ofNat 16 k)) ∧
        (t.queue.length ≤ t.queueSize → ∀ k, t.queueSize ≤ k → w.fetchByte k = t.read8 t.cs (t.ip + BitVec.ofNat 16 k)))) ∧
  ∀ (s : State) (n : Nat), s.prefetched ≤ s.queueSize → ∃ u, State.fetched s u n ∧ s.advance n = { u with
    ip := s.ip + BitVec.ofNat 16 n
    queue := s.queue.drop n
    prefetched := u.prefetched - n }

/-! ## Reset and the invariant -/

/-- R36: CS = FFFFH, IP = 0000H and IF = 0 right after reset, by the source; by decision D2 the flags word reads F002H
and DS, ES and SS are 0000H; the queue is empty, no NMI is pending, interrupts are not held off, the CPU runs. The first
instruction is fetched from FFFF0H. The general registers are 0000H: the model's choice (log 4). -/
def Obligations.ResetState : Prop :=
  State.reset.cs = 0xFFFF ∧ State.reset.ip = 0 ∧ State.reset.flags.iF = false ∧
    isFlagsImage 0xF002 State.reset.flags ∧ State.reset.ds = 0 ∧ State.reset.es = 0 ∧ State.reset.ss = 0 ∧
    State.reset.queue = [] ∧ State.reset.prefetched = 0 ∧ State.reset.nmiPending = false ∧ State.reset.inhibitInt = false ∧
    State.reset.run = .running ∧ phys State.reset.cs State.reset.ip = 0xFFFF0 ∧ (∀ r, State.reset.reg16 r = 0)

/-- The invariant holds at reset. -/
def Obligations.InvariantAtReset : Prop := State.reset.Inv

/-- Every step from a state with the invariant gives a state with the invariant, whatever the platform and other masters
do: memory keeps its canonical form with every address below 2^20 (R40, R41), the queue holds no more bytes than its
size (R33), no inhibition of interrupts outlives an instruction (R32), the bus is released only to the master that is to
have it (R62), a sampling is put off only to a bus request (R279), the queue stays empty while masters that still ask
come before the first fetch after RESET (R312), in reset HLDA and LOCK* are inactive (R315), and no NMI and no request
pulse is remembered while RESET is high (R312). -/
def Obligations.InvariantKeptByEveryStep : Prop := ∀ s t : State, s.Inv → step s = .next t → t.Inv

/-- R63, R54: a byte that the CPU writes is kept where the platform's memory map has RAM, heard by the host where it has
a device, and lost where it has ROM or nothing; it is never a fault. A word for a device is heard in one bus cycle at an
even address of an 8086, and else as its two bytes, the low one first. No step changes what is ROM, whatever the
instruction, the platform and other masters do, and with a quiet platform no step changes any byte that is not RAM. The
map itself never changes. What becomes of a write outside RAM is the model's reading of D16 (log 35). -/
def Obligations.StoresFollowTheMemoryMap : Prop :=
  (∀ (s : State) (off : Word) (a : Nat), a = phys (s.segOr .ds) off →
    exec (.movMemAl off) s = .next (match s.params.kindAt a with
      | .ram => { s with mem := Memory.write s.mem a (s.reg8 .al) }
      | .device => { s with trace := .memWrite8 a (s.reg8 .al) :: s.trace }
      | .rom | .nothing => s)) ∧
  (∀ (s : State) (off : Word) (a b : Nat), a = phys (s.segOr .ds) off → b = phys (s.segOr .ds) (off + 1) →
    s.params.kindAt a = .device → s.params.kindAt b = .device →
    exec (.movMemAx off) s = .next { s with
      trace := (if s.params.variant = .i8086 ∧ a % 2 = 0 then [.memWrite16 a s.ax]
        else [.memWrite8 b (s.reg8 .ah), .memWrite8 a (s.reg8 .al)]) ++ s.trace }) ∧
  (∀ (s t : State) (a : Nat), step s = .next t → t.params = s.params ∧
    (s.params.kindAt a = .rom → Memory.read t.mem a = Memory.read s.mem a) ∧
    (s.quiet → s.params.kindAt a ≠ .ram → Memory.read t.mem a = Memory.read s.mem a))

/-- A step never faults, and is refused only by the name of an encoding without behaviour that the bytes at CS:IP, or
the bytes behind nothing but prefixes, decode to (U3, U4, U10). -/
def Obligations.StepStopsOnlyAtReservedEncodings : Prop :=
  ∀ s : State, (∃ t, step s = .next t) ∨
    ∃ (n : Nat) (i : Instr) (rest : List Byte) (r : Refusal), step s = .refused r ∧ reservedEncoding i = some r ∧
      decode (s.hear.advance n).fetchBytes = .instr i rest ∧
      ∀ m < n, ∃ p rest', decode (s.hear.advance m).fetchBytes = .instr p rest' ∧ isPrefixByte p = true

/-! ## Encoding -/

/-- R70 to R106: the decoder reads every well-formed instruction back from its encoding, with every operand, and leaves
what follows. -/
def Obligations.DecodeReadsBackTheEncoding : Prop :=
  ∀ (i : Instr) (rest : List Byte), i.wf = true → decode (encode i ++ rest) = .instr i rest

/-- R70 to R106: what the decoder reads is well formed, is 1 to 6 bytes long, and is encoded by exactly the bytes that
were read, so that every bit of an instruction is in its operands; six bytes are always enough. -/
def Obligations.DecodedInstructionsEncodeBack : Prop :=
  ∀ bytes : List Byte,
    (∀ i rest, decode bytes = .instr i rest →
      i.wf = true ∧ encode i ++ rest = bytes ∧ 1 ≤ (encode i).length ∧ (encode i).length ≤ 6) ∧
    (6 ≤ bytes.length → ∃ i rest, decode bytes = .instr i rest)

/-- The worked examples of the spec, in their own bytes: MOV BP, SP; MOV word [2000H], 1234H; LEA BX, [BP+DI]; LDS SI,
[0500H]; LES DI, [BX]; CALL far; JMP to itself; ESC 0, [1000H]; AAM; the prefixes REP and CS:. -/
def Obligations.WorkedExamplesDecode : Prop :=
  ∀ q ∈ ([([0x8B, 0xEC], .movGvEv .bp (.reg .sp)),
      ([0xC7, 0x06, 0x00, 0x20, 0x34, 0x12], .movEvIv (.mem (.direct 0x2000)) 0x1234),
      ([0x8D, 0x1B], .lea .bx (.indexed .bpDi .absent)), ([0xC5, 0x36, 0x00, 0x05], .lds .si (.direct 0x0500)),
      ([0xC4, 0x3F], .les .di (.indexed .bx .absent)), ([0x9A, 0x00, 0x01, 0x00, 0x20], .callFar 0x0100 0x2000),
      ([0xEB, 0xFE], .jmpShort 0xFE), ([0xD8, 0x06, 0x00, 0x10], .esc 0 0 (.mem (.direct 0x1000))),
      ([0xDD, 0xC0], .esc 5 0 (.reg .ax)), ([0xFF, 0x67, 0x02], .jmpEv (.mem (.indexed .bx (.d8 2)))),
      ([0xD4, 0x0A], .aam), ([0xF3], .rep), ([0x2E], .segCs)] : List (List Byte × Instr)),
    decode q.1 = .instr q.2 []
end

