-- ==== Sys2Proof/Laws/Flags.lean ====
section
/-! SUPPORT. What each flag computation does, in the terms of Safety: the results and flags of addition, subtraction and
the logicals against the flag rules of spec/10_state.md (R16 to R21) and spec/41_arithmetic.md (R140). -/
namespace Sys2Proof.Machine

theorem evenParity_iff {w : Nat} (v : BitVec w) : evenParity (lowByte v) = true ↔ evenOnes v := by
  have h : ∀ i < 8, (lowByte v).getLsbD i = v.getLsbD i := by
    intro i hi
    simp [lowByte, hi]
  simp only [evenParity, evenOnes, List.range, List.range.loop, h 0 (by decide), h 1 (by decide), h 2 (by decide),
    h 3 (by decide), h 4 (by decide), h 5 (by decide), h 6 (by decide), h 7 (by decide), List.countP_cons, List.countP_nil]
  generalize v.getLsbD 0 = b0, v.getLsbD 1 = b1, v.getLsbD 2 = b2, v.getLsbD 3 = b3, v.getLsbD 4 = b4, v.getLsbD 5 = b5,
    v.getLsbD 6 = b6, v.getLsbD 7 = b7
  revert b0 b1 b2 b3 b4 b5 b6 b7
  decide

/-- `SetSZP` gives SF, ZF and PF by result (R17, R18, R19). -/
theorem flagsOfResult_of_setSZP {w : Nat} (f g : Flags) (res : BitVec w) (hs : g.sF = (f.setSZP res).sF)
    (hz : g.zF = (f.setSZP res).zF) (hp : g.pF = (f.setSZP res).pF) : flagsOfResult res g := by
  refine ⟨?_, ?_, ?_⟩
  · rw [hs]; simp [Flags.setSZP, BitVec.msb_eq_getLsbD_last]
  · rw [hz]; simp [Flags.setSZP]
  · rw [hp]; exact evenParity_iff res

theorem msb_true_iff8 (v : Byte) : v.msb = true ↔ 128 ≤ v.toNat := by
  rw [BitVec.msb_eq_decide]; simp

theorem msb_true_iff16 (v : Word) : v.msb = true ↔ 32768 ≤ v.toNat := by
  rw [BitVec.msb_eq_decide]; simp

theorem getLsbD4 {w : Nat} (v : BitVec w) : v.getLsbD 4 = decide (v.toNat / 16 % 2 = 1) := by
  rw [BitVec.getLsbD, Nat.testBit_eq_decide_div_mod_eq]

theorem decide_eq_xor {p q r s : Prop} [Decidable p] [Decidable q] [Decidable r] [Decidable s]
    (h : s ↔ ((p ↔ q) ↔ r)) : decide s = (decide p ^^ decide q ^^ decide r) := by
  by_cases p <;> by_cases q <;> by_cases r <;> simp_all

/-- The sum with its carry as `addW` computes it. -/
theorem addW_fst8 (c : Bool) (a b : Byte) (f : Flags) : (addW c a b f).1 = a + b + carryOf 8 c := by
  apply BitVec.eq_of_toNat_eq
  cases c <;> simp [addW, carryOf]

theorem addW_fst16 (c : Bool) (a b : Word) (f : Flags) : (addW c a b f).1 = a + b + carryOf 16 c := by
  apply BitVec.eq_of_toNat_eq
  cases c <;> simp [addW, carryOf]

theorem subW_fst8 (c : Bool) (a b : Byte) (f : Flags) : (subW c a b f).1 = a - b - carryOf 8 c := by
  apply BitVec.eq_of_toNat_eq
  have := a.isLt; have := b.isLt
  cases c <;> simp [subW, carryOf, BitVec.toNat_ofInt, BitVec.toNat_sub] <;> omega

theorem subW_fst16 (c : Bool) (a b : Word) (f : Flags) : (subW c a b f).1 = a - b - carryOf 16 c := by
  apply BitVec.eq_of_toNat_eq
  have := a.isLt; have := b.isLt
  cases c <;> simp [subW, carryOf, BitVec.toNat_ofInt, BitVec.toNat_sub] <;> omega

/-- ADDW gives the six status flags of the sum (R140). -/
theorem addW_flags8 (c : Bool) (a b : Byte) (f : Flags) : flagsOfSum a b c f (addW c a b f).2 := by
  have hr := addW_fst8 c a b f
  have ha := a.isLt
  have hb := b.isLt
  refine ⟨by simp [addW], ?_, ?_, ?_, rfl, rfl, rfl⟩
  · rw [← hr, BitVec.getLsbD_xor, BitVec.getLsbD_xor]
    simp only [getLsbD4]
    apply decide_eq_xor
    cases c <;> simp [addW] <;> omega
  · simp only [addW, fitsSigned, Bool.and_eq_true, beq_iff_eq, bne_iff_ne, ne_eq, BitVec.toInt_eq_toNat_cond,
      BitVec.msb_eq_decide, BitVec.toNat_ofNat, decide_eq_decide]
    cases c <;> simp <;> omega
  · rw [← hr]
    exact flagsOfResult_of_setSZP f _ _ rfl rfl rfl

/-- ADDW gives the six status flags of the sum (R140). -/
theorem addW_flags16 (c : Bool) (a b : Word) (f : Flags) : flagsOfSum a b c f (addW c a b f).2 := by
  have hr := addW_fst16 c a b f
  have ha := a.isLt
  have hb := b.isLt
  refine ⟨by simp [addW], ?_, ?_, ?_, rfl, rfl, rfl⟩
  · rw [← hr, BitVec.getLsbD_xor, BitVec.getLsbD_xor]
    simp only [getLsbD4]
    apply decide_eq_xor
    cases c <;> simp [addW] <;> omega
  · simp only [addW, fitsSigned, Bool.and_eq_true, beq_iff_eq, bne_iff_ne, ne_eq, BitVec.toInt_eq_toNat_cond,
      BitVec.msb_eq_decide, BitVec.toNat_ofNat, decide_eq_decide]
    cases c <;> simp <;> omega
  · rw [← hr]
    exact flagsOfResult_of_setSZP f _ _ rfl rfl rfl

/-- SUBW gives the six status flags of the difference (R140). -/
theorem subW_flags8 (c : Bool) (a b : Byte) (f : Flags) : flagsOfDifference a b c f (subW c a b f).2 := by
  have hr := subW_fst8 c a b f
  have ha := a.isLt
  have hb := b.isLt
  refine ⟨by simp [subW]; omega, ?_, ?_, ?_, rfl, rfl, rfl⟩
  · rw [← hr, BitVec.getLsbD_xor, BitVec.getLsbD_xor]
    simp only [getLsbD4]
    apply decide_eq_xor
    cases c <;> simp [subW] <;> omega
  · simp only [subW, fitsSigned, Bool.and_eq_true, bne_iff_ne, ne_eq, BitVec.toInt_eq_toNat_cond,
      BitVec.msb_eq_decide, decide_eq_decide]
    cases c <;> simp <;> omega
  · rw [← hr]
    exact flagsOfResult_of_setSZP f _ _ rfl rfl rfl

/-- SUBW gives the six status flags of the difference (R140). -/
theorem subW_flags16 (c : Bool) (a b : Word) (f : Flags) : flagsOfDifference a b c f (subW c a b f).2 := by
  have hr := subW_fst16 c a b f
  have ha := a.isLt
  have hb := b.isLt
  refine ⟨by simp [subW]; omega, ?_, ?_, ?_, rfl, rfl, rfl⟩
  · rw [← hr, BitVec.getLsbD_xor, BitVec.getLsbD_xor]
    simp only [getLsbD4]
    apply decide_eq_xor
    cases c <;> simp [subW] <;> omega
  · simp only [subW, fitsSigned, Bool.and_eq_true, bne_iff_ne, ne_eq, BitVec.toInt_eq_toNat_cond,
      BitVec.msb_eq_decide, decide_eq_decide]
    cases c <;> simp <;> omega
  · rw [← hr]
    exact flagsOfResult_of_setSZP f _ _ rfl rfl rfl

/-- LOGICFLAGS gives the flags of a logical result (R170). -/
theorem logic_flags {w : Nat} (u : StatusFlag → Bool) (res : BitVec w) (f : Flags) :
    flagsOfLogic res f (f.logic u res) :=
  ⟨rfl, rfl, flagsOfResult_of_setSZP f _ _ rfl rfl rfl, rfl, rfl, rfl⟩

/-! ## The flags word -/

theorem toWord_isFlagsImage (f : Flags) : isFlagsImage f.toWord f := by
  obtain ⟨a, b, c, d, e, g, h, i, j⟩ := f
  simp only [isFlagsImage, carriesFlags]
  revert a b c d e g h i j
  decide

theorem ofWord_carriesFlags (w : Word) : carriesFlags w (.ofWord w) := ⟨rfl, rfl, rfl, rfl, rfl, rfl, rfl, rfl, rfl⟩

@[simp] theorem ofWord_toWord (f : Flags) : Flags.ofWord f.toWord = f := by
  obtain ⟨a, b, c, d, e, g, h, i, j⟩ := f
  revert a b c d e g h i j
  decide

end Sys2Proof.Machine
end

