-- ==== Sys2Proof/Laws/Memory.lean ====
section
/-! SUPPORT. Laws of memory: a read after a write, the canonical form and that every memory operation keeps it. -/
namespace Sys2Proof.Machine

/-! ## Reading after writing -/

theorem Memory.read_erase (m : List Host.Cell) (a b : Nat) :
    Memory.read (Memory.erase m a) b = if b = a then 0 else Memory.read m b := by
  induction m with
  | nil => simp [Memory.read, Memory.erase, Memory.unlisted]
  | cons c m ih =>
    by_cases h : c.1 = a
    · by_cases hb : b = a
      · simpa [Memory.erase, h, hb] using ih
      · have : ¬a = b := fun e => hb e.symm
        simp [Memory.erase, Memory.read, h, ih, hb, this]
    · by_cases hb : c.1 = b
      · have : ¬b = a := by omega
        simp [Memory.erase, Memory.read, hb, this]
      · simp [Memory.erase, Memory.read, h, hb, ih]

theorem Memory.read_insert (m : List Host.Cell) (a b : Nat) (v : Byte) (h : ∀ c ∈ m, c.1 ≠ a) :
    Memory.read (Memory.insert m a v) b = if b = a then v else Memory.read m b := by
  induction m with
  | nil => simp [Memory.insert, Memory.read, eq_comm]
  | cons c m ih =>
    have hc : c.1 ≠ a := h c (by simp)
    have ih' := ih fun d hd => h d (by simp [hd])
    unfold Memory.insert
    split
    · simp only [Memory.read]
      by_cases hb : b = a
      · simp [hb]
      · simp [hb, Ne.symm hb]
    · simp only [Memory.read, ih']
      by_cases hb : b = a
      · simp [hb, hc]
      · simp [hb]

theorem Memory.not_mem_erase (m : List Host.Cell) (a : Nat) : ∀ c ∈ Memory.erase m a, c.1 ≠ a := by
  induction m with
  | nil => simp [Memory.erase]
  | cons c m ih =>
    by_cases h : c.1 = a
    · simpa [Memory.erase, h] using ih
    · intro d hd
      simp only [Memory.erase, h, if_false, List.mem_cons] at hd
      rcases hd with rfl | hd
      · exact h
      · exact ih d hd

/-- A byte reads as what was last written to it. -/
theorem Memory.read_write (m : List Host.Cell) (a b : Nat) (v : Byte) :
    Memory.read (Memory.write m a v) b = if b = a then v else Memory.read m b := by
  unfold Memory.write
  split
  · rename_i h
    rw [Memory.read_erase, h]
    rfl
  · rw [Memory.read_insert _ _ _ _ (Memory.not_mem_erase m a), Memory.read_erase]
    split <;> rfl

@[simp] theorem Memory.read_write_same (m : List Host.Cell) (a : Nat) (v : Byte) :
    Memory.read (Memory.write m a v) a = v := by simp [Memory.read_write]

theorem Memory.read_write_other {m : List Host.Cell} {a b : Nat} {v : Byte} (h : b ≠ a) :
    Memory.read (Memory.write m a v) b = Memory.read m b := by simp [Memory.read_write, h]

/-! ## The canonical form -/

theorem Memory.mem_erase {m : List Host.Cell} {a : Nat} {c : Host.Cell} (h : c ∈ Memory.erase m a) : c ∈ m := by
  induction m with
  | nil => simp [Memory.erase] at h
  | cons d m ih =>
    by_cases hd : d.1 = a
    · exact List.mem_cons_of_mem _ (ih (by simpa [Memory.erase, hd] using h))
    · simp only [Memory.erase, hd, if_false, List.mem_cons] at h
      rcases h with rfl | h
      · simp
      · exact List.mem_cons_of_mem _ (ih h)

theorem Memory.mem_insert {m : List Host.Cell} {a : Nat} {v : Byte} {c : Host.Cell}
    (h : c ∈ Memory.insert m a v) : c = (a, v) ∨ c ∈ m := by
  induction m with
  | nil => simpa [Memory.insert] using h
  | cons d m ih =>
    unfold Memory.insert at h
    split at h
    · simpa using h
    · rcases List.mem_cons.1 h with rfl | h
      · simp
      · rcases ih h with h | h
        · exact .inl h
        · exact .inr (List.mem_cons_of_mem _ h)

theorem Memory.wf_erase {m : List Host.Cell} (a : Nat) (h : Memory.wf m) : Memory.wf (Memory.erase m a) := by
  refine ⟨?_, fun c hc => h.2 c (Memory.mem_erase hc)⟩
  have hp := h.1
  clear h
  induction m with
  | nil => simp [Memory.erase]
  | cons d m ih =>
    obtain ⟨h1, h2⟩ := List.pairwise_cons.1 hp
    by_cases hd : d.1 = a
    · simpa [Memory.erase, hd] using ih h2
    · simp only [Memory.erase, hd, if_false]
      exact List.pairwise_cons.2 ⟨fun c hc => h1 c (Memory.mem_erase hc), ih h2⟩

theorem Memory.wf_insert {m : List Host.Cell} {a : Nat} {v : Byte} (h : Memory.wf m) (ha : a < 0x100000)
    (hv : v ≠ 0) (hn : ∀ c ∈ m, c.1 ≠ a) : Memory.wf (Memory.insert m a v) := by
  refine ⟨?_, fun c hc => ?_⟩
  · have hp := h.1
    clear h
    induction m with
    | nil => simp [Memory.insert]
    | cons d m ih =>
      obtain ⟨h1, h2⟩ := List.pairwise_cons.1 hp
      unfold Memory.insert
      split
      · rename_i had
        refine List.pairwise_cons.2 ⟨fun c hc => ?_, hp⟩
        rcases List.mem_cons.1 hc with rfl | hc
        · exact had
        · exact lt_trans had (h1 c hc)
      · rename_i had
        have hda : d.1 < a := by
          have := hn d (by simp)
          omega
        refine List.pairwise_cons.2 ⟨fun c hc => ?_, ih (fun c hc => hn c (by simp [hc])) h2⟩
        rcases Memory.mem_insert hc with rfl | hc
        · exact hda
        · exact h1 c hc
  · rcases Memory.mem_insert hc with rfl | hc
    · exact ⟨hv, ha⟩
    · exact h.2 c hc

/-- A write at a physical address keeps the canonical form. -/
theorem Memory.wf_write {m : List Host.Cell} {a : Nat} (v : Byte) (h : Memory.wf m) (ha : a < 0x100000) :
    Memory.wf (Memory.write m a v) := by
  unfold Memory.write
  split
  · exact Memory.wf_erase a h
  · rename_i hv
    exact Memory.wf_insert (Memory.wf_erase a h) ha hv (Memory.not_mem_erase m a)

/-- What the platform or another master puts at an address keeps the canonical form. -/
theorem Memory.wf_put {m : List Host.Cell} (p : Params) (fixed : Storage → Bool) (c : Host.Cell) (h : Memory.wf m) :
    Memory.wf (Memory.put p fixed m c) := by
  unfold Memory.put
  split
  · exact h
  · exact Memory.wf_write c.2 h (Nat.mod_lt _ (by decide))

/-- What another bus master writes keeps the canonical form. -/
theorem Memory.wf_writeAll {m : List Host.Cell} (p : Params) (cells : List Host.Cell) (h : Memory.wf m) :
    Memory.wf (Memory.writeAll p m cells) := by
  unfold Memory.writeAll
  induction cells generalizing m with
  | nil => exact h
  | cons c cells ih => exact ih (Memory.wf_put p _ c h)

/-- A byte that the CPU writes keeps the canonical form, whatever the memory map has there. -/
theorem Memory.wf_store {m : List Host.Cell} (p : Params) {a : Nat} (v : Byte) (h : Memory.wf m) (ha : a < 0x100000) :
    Memory.wf (Memory.store p m a v) := by
  unfold Memory.store
  split
  · exact Memory.wf_write v h ha
  · exact h

theorem Memory.read_of_lt {m : List Host.Cell} {a : Nat} (h : ∀ c ∈ m, a < c.1) : Memory.read m a = 0 := by
  induction m with
  | nil => rfl
  | cons c m ih =>
    have : c.1 ≠ a := by
      have := h c (by simp)
      omega
    simp [Memory.read, this, ih fun d hd => h d (by simp [hd])]

/-- In canonical form, memories that read alike are equal. -/
theorem Memory.ext {m n : List Host.Cell} (hm : Memory.wf m) (hn : Memory.wf n)
    (h : ∀ a, Memory.read m a = Memory.read n a) : m = n := by
  induction m generalizing n with
  | nil =>
    cases n with
    | nil => rfl
    | cons d n =>
      have h0 := h d.1
      simp only [Memory.read, if_true, Memory.unlisted] at h0
      exact absurd h0.symm (hn.2 d (by simp)).1
  | cons c m ih =>
    obtain ⟨hc, hmp⟩ := List.pairwise_cons.1 hm.1
    have hm' : Memory.wf m := ⟨hmp, fun x hx => hm.2 x (by simp [hx])⟩
    cases n with
    | nil =>
      have h0 := h c.1
      simp only [Memory.read, if_true, Memory.unlisted] at h0
      exact absurd h0 (hm.2 c (by simp)).1
    | cons d n =>
      obtain ⟨hd, hnp⟩ := List.pairwise_cons.1 hn.1
      have hn' : Memory.wf n := ⟨hnp, fun x hx => hn.2 x (by simp [hx])⟩
      have hcd : c.1 = d.1 := by
        rcases lt_trichotomy c.1 d.1 with hlt | heq | hgt
        · have h0 := h c.1
          have hz : Memory.read (d :: n) c.1 = 0 := Memory.read_of_lt fun x hx => by
            rcases List.mem_cons.1 hx with rfl | hx
            · exact hlt
            · exact lt_trans hlt (hd x hx)
          rw [hz] at h0
          exact absurd (by simpa [Memory.read] using h0) (hm.2 c (by simp)).1
        · exact heq
        · have h0 := h d.1
          have hz : Memory.read (c :: m) d.1 = 0 := Memory.read_of_lt fun x hx => by
            rcases List.mem_cons.1 hx with rfl | hx
            · exact hgt
            · exact lt_trans hgt (hc x hx)
          rw [hz] at h0
          exact absurd (by simpa [Memory.read] using h0.symm) (hn.2 d (by simp)).1
      have hv : c.2 = d.2 := by
        have h0 := h c.1
        simpa [Memory.read, hcd] using h0
      have htail : m = n := by
        refine ih hm' hn' fun a => ?_
        by_cases ha : c.1 = a
        · rw [Memory.read_of_lt fun x hx => by rw [← ha]; exact hc x hx,
            Memory.read_of_lt fun x hx => by rw [← ha, hcd]; exact hd x hx]
        · have h0 := h a
          simpa [Memory.read, ha, ← hcd] using h0
      rw [htail, Prod.ext hcd hv]

/-! ## Physical addresses -/

theorem phys_lt (base off : Word) : phys base off < 0x100000 := Nat.mod_lt _ (by decide)

/-- Within one segment, different offsets are different bytes (R41, R42). -/
@[simp] theorem phys_inj {base off off' : Word} : phys base off = phys base off' ↔ off = off' := by
  constructor
  · intro h
    apply BitVec.eq_of_toNat_eq
    unfold phys at h
    have h1 := off.isLt
    have h2 := off'.isLt
    omega
  · rintro rfl
    rfl

/-- The two bytes of a word lie at different addresses. -/
theorem word_succ_ne (off : Word) : off + 1 ≠ off := by
  intro h
  have e := congrArg BitVec.toNat h
  simp at e
  have := off.isLt
  omega

/-! ## Words of two bytes -/

@[simp] theorem wordOf_lo_hi (v : Word) : wordOf (loByte v) (hiByte v) = v := by
  apply BitVec.eq_of_toNat_eq
  simp only [wordOf, loByte, hiByte, BitVec.toNat_append, BitVec.extractLsb'_toNat, Nat.shiftRight_zero]
  have := v.isLt
  rw [← Nat.shiftLeft_add_eq_or_of_lt (by omega)]
  simp only [Nat.shiftLeft_eq, Nat.shiftRight_eq_div_pow]
  omega

@[simp] theorem loByte_wordOf (lo hi : Byte) : loByte (wordOf lo hi) = lo := by
  apply BitVec.eq_of_toNat_eq
  simp only [wordOf, loByte, BitVec.toNat_append, BitVec.extractLsb'_toNat, Nat.shiftRight_zero]
  have := lo.isLt
  rw [← Nat.shiftLeft_add_eq_or_of_lt (by omega)]
  simp only [Nat.shiftLeft_eq]
  omega

@[simp] theorem hiByte_wordOf (lo hi : Byte) : hiByte (wordOf lo hi) = hi := by
  apply BitVec.eq_of_toNat_eq
  simp only [wordOf, hiByte, BitVec.toNat_append, BitVec.extractLsb'_toNat]
  have := lo.isLt
  have := hi.isLt
  rw [← Nat.shiftLeft_add_eq_or_of_lt (by omega)]
  simp only [Nat.shiftLeft_eq, Nat.shiftRight_eq_div_pow]
  omega

/-! ## The memory map -/

/-- A byte reads as what the CPU last wrote to it where the memory map has RAM, and otherwise as before (R63). -/
theorem Memory.read_store (p : Params) (m : List Host.Cell) (a b : Nat) (v : Byte) :
    Memory.read (Memory.store p m a v) b = if b = a ∧ p.kindAt a = .ram then v else Memory.read m b := by
  unfold Memory.store
  by_cases hk : p.kindAt a = .ram
  · simp [hk, Memory.read_write]
  · simp [hk]

/-- What is ROM stays as it is, whatever another master writes (R63). -/
theorem Memory.read_writeAll_rom (p : Params) (m : List Host.Cell) (cells : List Host.Cell) (a : Nat)
    (h : p.kindAt a = .rom) : Memory.read (Memory.writeAll p m cells) a = Memory.read m a := by
  unfold Memory.writeAll
  induction cells generalizing m with
  | nil => rfl
  | cons c cells ih =>
    refine (ih _).trans ?_
    unfold Memory.put
    split
    · rfl
    · rename_i hf
      refine Memory.read_write_other ?_
      rintro rfl
      simp [h] at hf

/-- With RAM throughout, a byte that the CPU writes is kept and the host hears nothing. -/
theorem State.store_of_ram {s : State} {a : Nat} (h : s.params.kindAt a = .ram) (v : Byte) :
    s.store a v = { s with mem := Memory.write s.mem a v } := by
  simp [State.store, Memory.store, Params.heard, h]

/-- A byte written to a device goes to the host and nowhere else (R63). -/
theorem State.store_of_device {s : State} {a : Nat} (h : s.params.kindAt a = .device) (v : Byte) :
    s.store a v = s.record (.memWrite8 a v) := by
  simp [State.store, Memory.store, Params.heard, State.record, h]

/-- A byte written where there is ROM or nothing changes nothing (R63). -/
theorem State.store_of_lost {s : State} {a : Nat} (h : s.params.kindAt a = .rom ∨ s.params.kindAt a = .nothing)
    (v : Byte) : s.store a v = s := by
  rcases h with h | h <;> simp [State.store, Memory.store, Params.heard, h]

/-- What the host hears of a word: its two bytes in one cycle, or each that goes to a device in its own (R54, R63). -/
theorem Params.mem_heardWord {p : Params} {a b : Nat} {v : Word} {c : HostCall} (h : c ∈ p.heardWord a b v) :
    (p.wideCycle a = true ∧ p.kindAt a = .device ∧ p.kindAt b = .device ∧ c = .memWrite16 a v) ∨
      (p.kindAt a = .device ∧ c = .memWrite8 a (loByte v)) ∨ (p.kindAt b = .device ∧ c = .memWrite8 b (hiByte v)) := by
  unfold Params.heardWord Params.heard at h
  split at h
  · rename_i hw
    exact .inl ⟨hw.1, hw.2.1, hw.2.2, by simpa using h⟩
  · rcases List.mem_append.1 h with h | h <;> split at h <;> simp_all

/-- A word that is one bus cycle lies at two neighbouring addresses (R42, R54). -/
theorem phys_succ {p : Params} {base off : Word} (h : p.wideCycle (phys base off) = true) :
    phys base (off + 1) = phys base off + 1 := by
  simp only [Params.wideCycle, phys, Bool.and_eq_true, beq_iff_eq] at h
  have h2 := h.2
  have := off.isLt
  have h1 : (1 : Word).toNat = 1 := rfl
  simp only [phys, BitVec.toNat_add, h1]
  omega

/-- A word goes to memory as its two bytes do (R47). -/
theorem State.write16_mem (s : State) (base off v : Word) :
    (s.write16 base off v).mem = ((s.write8 base off (loByte v)).write8 base (off + 1) (hiByte v)).mem := rfl

/-! ## Reading and writing through a segment -/

theorem State.read8_write8 (s : State) (base off off' : Word) (v : Byte) :
    (s.write8 base off v).read8 base off' =
      if off' = off ∧ s.params.kindAt (phys base off) = .ram then v else s.read8 base off' := by
  simp [State.read8, State.write8, State.store, Memory.read_store]

/-- A word reads as what was last written to it, where both its bytes are RAM (R47, R63). -/
theorem State.read16_write16 (s : State) (base off v : Word) (h : s.params.kindAt (phys base off) = .ram)
    (h' : s.params.kindAt (phys base (off + 1)) = .ram) : (s.write16 base off v).read16 base off = v := by
  rw [BitVec.ofNat_eq_ofNat] at h'
  simp [State.read16, State.read8, State.write16, Memory.read_store, h, h']

/-- A word write changes no byte but its two (R47). -/
theorem State.write16_frame (s : State) (base off v : Word) (a : Nat) (h : a ≠ phys base off)
    (h' : a ≠ phys base (off + 1)) : Memory.read (s.write16 base off v).mem a = Memory.read s.mem a := by
  rw [BitVec.ofNat_eq_ofNat] at h'
  simp [State.write16, Memory.read_store, h, h']

/-- As `write16_frame`, for a byte of the same segment. -/
theorem State.read8_write16_other (s : State) (base off off' v : Word) (h : off' ≠ off) (h' : off' ≠ off + 1) :
    (s.write16 base off v).read8 base off' = s.read8 base off' :=
  State.write16_frame s base off v _ (fun e => h (phys_inj.1 e)) fun e => h' (phys_inj.1 e)

theorem State.write8_wf (s : State) (base off : Word) (v : Byte) (h : Memory.wf s.mem) :
    Memory.wf (s.write8 base off v).mem := Memory.wf_store _ _ h (phys_lt _ _)

theorem State.write16_wf (s : State) (base off v : Word) (h : Memory.wf s.mem) :
    Memory.wf (s.write16 base off v).mem :=
  State.write8_wf _ _ _ _ (State.write8_wf _ _ _ _ h)

theorem State.busGap_wf (s : State) (h : Memory.wf s.mem) : Memory.wf s.busGap.mem := by
  unfold State.busGap
  split
  · exact h
  · split
    · exact h
    · exact Memory.wf_writeAll _ _ h

theorem State.push16_wf (s : State) (v : Word) (h : Memory.wf s.mem) : Memory.wf (s.push16 v).mem :=
  State.write16_wf _ _ _ _ h

/-- Reset leaves memory in canonical form. -/
theorem State.reset_wf : Memory.wf State.reset.mem := by decide

end Sys2Proof.Machine
end

