-- ==== Sys2Proof/Laws/State.lean ====
section
/-! SUPPORT. What each update of the state leaves in each field: one lemma per field per update, so that no proof unfolds
a record update. -/
namespace Sys2Proof.Machine

/-! ### setReg16 -/

@[simp] theorem State.setReg16_es (s : State) (r : Reg16) (v : Word) : (s.setReg16 r v).es = s.es := by
  cases r <;> rfl
@[simp] theorem State.setReg16_cs (s : State) (r : Reg16) (v : Word) : (s.setReg16 r v).cs = s.cs := by
  cases r <;> rfl
@[simp] theorem State.setReg16_ss (s : State) (r : Reg16) (v : Word) : (s.setReg16 r v).ss = s.ss := by
  cases r <;> rfl
@[simp] theorem State.setReg16_ds (s : State) (r : Reg16) (v : Word) : (s.setReg16 r v).ds = s.ds := by
  cases r <;> rfl
@[simp] theorem State.setReg16_ip (s : State) (r : Reg16) (v : Word) : (s.setReg16 r v).ip = s.ip := by
  cases r <;> rfl
@[simp] theorem State.setReg16_flags (s : State) (r : Reg16) (v : Word) : (s.setReg16 r v).flags = s.flags := by
  cases r <;> rfl
@[simp] theorem State.setReg16_nmiPending (s : State) (r : Reg16) (v : Word) : (s.setReg16 r v).nmiPending = s.nmiPending := by
  cases r <;> rfl
@[simp] theorem State.setReg16_inhibitInt (s : State) (r : Reg16) (v : Word) : (s.setReg16 r v).inhibitInt = s.inhibitInt := by
  cases r <;> rfl
@[simp] theorem State.setReg16_run (s : State) (r : Reg16) (v : Word) : (s.setReg16 r v).run = s.run := by
  cases r <;> rfl
@[simp] theorem State.setReg16_busReleased (s : State) (r : Reg16) (v : Word) : (s.setReg16 r v).busReleased = s.busReleased := by
  cases r <;> rfl
@[simp] theorem State.setReg16_unsampled (s : State) (r : Reg16) (v : Word) : (s.setReg16 r v).unsampled = s.unsampled := by
  cases r <;> rfl
@[simp] theorem State.setReg16_lock (s : State) (r : Reg16) (v : Word) : (s.setReg16 r v).lock = s.lock := by
  cases r <;> rfl
@[simp] theorem State.setReg16_beforeFetch (s : State) (r : Reg16) (v : Word) : (s.setReg16 r v).beforeFetch = s.beforeFetch := by
  cases r <;> rfl
@[simp] theorem State.setReg16_queue (s : State) (r : Reg16) (v : Word) : (s.setReg16 r v).queue = s.queue := by
  cases r <;> rfl
@[simp] theorem State.setReg16_prefetched (s : State) (r : Reg16) (v : Word) : (s.setReg16 r v).prefetched = s.prefetched := by
  cases r <;> rfl
@[simp] theorem State.setReg16_mem (s : State) (r : Reg16) (v : Word) : (s.setReg16 r v).mem = s.mem := by
  cases r <;> rfl
@[simp] theorem State.setReg16_pins (s : State) (r : Reg16) (v : Word) : (s.setReg16 r v).pins = s.pins := by
  cases r <;> rfl
@[simp] theorem State.setReg16_resetSeen (s : State) (r : Reg16) (v : Word) : (s.setReg16 r v).resetSeen = s.resetSeen := by
  cases r <;> rfl
@[simp] theorem State.setReg16_outside (s : State) (r : Reg16) (v : Word) : (s.setReg16 r v).outside = s.outside := by
  cases r <;> rfl
@[simp] theorem State.setReg16_masters (s : State) (r : Reg16) (v : Word) : (s.setReg16 r v).masters = s.masters := by
  cases r <;> rfl
@[simp] theorem State.setReg16_ioIn (s : State) (r : Reg16) (v : Word) : (s.setReg16 r v).ioIn = s.ioIn := by
  cases r <;> rfl
@[simp] theorem State.setReg16_trace (s : State) (r : Reg16) (v : Word) : (s.setReg16 r v).trace = s.trace := by
  cases r <;> rfl
@[simp] theorem State.setReg16_cur (s : State) (r : Reg16) (v : Word) : (s.setReg16 r v).cur = s.cur := by
  cases r <;> rfl
@[simp] theorem State.setReg16_drawn (s : State) (r : Reg16) (v : Word) : (s.setReg16 r v).drawn = s.drawn := by
  cases r <;> rfl
@[simp] theorem State.setReg16_params (s : State) (r : Reg16) (v : Word) : (s.setReg16 r v).params = s.params := by
  cases r <;> rfl

/-! ### setReg8 -/

@[simp] theorem State.setReg8_sp (s : State) (r : Reg8) (v : Byte) : (s.setReg8 r v).sp = s.sp := by
  cases r <;> rfl
@[simp] theorem State.setReg8_bp (s : State) (r : Reg8) (v : Byte) : (s.setReg8 r v).bp = s.bp := by
  cases r <;> rfl
@[simp] theorem State.setReg8_si (s : State) (r : Reg8) (v : Byte) : (s.setReg8 r v).si = s.si := by
  cases r <;> rfl
@[simp] theorem State.setReg8_di (s : State) (r : Reg8) (v : Byte) : (s.setReg8 r v).di = s.di := by
  cases r <;> rfl
@[simp] theorem State.setReg8_es (s : State) (r : Reg8) (v : Byte) : (s.setReg8 r v).es = s.es := by
  cases r <;> rfl
@[simp] theorem State.setReg8_cs (s : State) (r : Reg8) (v : Byte) : (s.setReg8 r v).cs = s.cs := by
  cases r <;> rfl
@[simp] theorem State.setReg8_ss (s : State) (r : Reg8) (v : Byte) : (s.setReg8 r v).ss = s.ss := by
  cases r <;> rfl
@[simp] theorem State.setReg8_ds (s : State) (r : Reg8) (v : Byte) : (s.setReg8 r v).ds = s.ds := by
  cases r <;> rfl
@[simp] theorem State.setReg8_ip (s : State) (r : Reg8) (v : Byte) : (s.setReg8 r v).ip = s.ip := by
  cases r <;> rfl
@[simp] theorem State.setReg8_flags (s : State) (r : Reg8) (v : Byte) : (s.setReg8 r v).flags = s.flags := by
  cases r <;> rfl
@[simp] theorem State.setReg8_nmiPending (s : State) (r : Reg8) (v : Byte) : (s.setReg8 r v).nmiPending = s.nmiPending := by
  cases r <;> rfl
@[simp] theorem State.setReg8_inhibitInt (s : State) (r : Reg8) (v : Byte) : (s.setReg8 r v).inhibitInt = s.inhibitInt := by
  cases r <;> rfl
@[simp] theorem State.setReg8_run (s : State) (r : Reg8) (v : Byte) : (s.setReg8 r v).run = s.run := by
  cases r <;> rfl
@[simp] theorem State.setReg8_busReleased (s : State) (r : Reg8) (v : Byte) : (s.setReg8 r v).busReleased = s.busReleased := by
  cases r <;> rfl
@[simp] theorem State.setReg8_unsampled (s : State) (r : Reg8) (v : Byte) : (s.setReg8 r v).unsampled = s.unsampled := by
  cases r <;> rfl
@[simp] theorem State.setReg8_lock (s : State) (r : Reg8) (v : Byte) : (s.setReg8 r v).lock = s.lock := by
  cases r <;> rfl
@[simp] theorem State.setReg8_beforeFetch (s : State) (r : Reg8) (v : Byte) : (s.setReg8 r v).beforeFetch = s.beforeFetch := by
  cases r <;> rfl
@[simp] theorem State.setReg8_queue (s : State) (r : Reg8) (v : Byte) : (s.setReg8 r v).queue = s.queue := by
  cases r <;> rfl
@[simp] theorem State.setReg8_prefetched (s : State) (r : Reg8) (v : Byte) : (s.setReg8 r v).prefetched = s.prefetched := by
  cases r <;> rfl
@[simp] theorem State.setReg8_mem (s : State) (r : Reg8) (v : Byte) : (s.setReg8 r v).mem = s.mem := by
  cases r <;> rfl
@[simp] theorem State.setReg8_pins (s : State) (r : Reg8) (v : Byte) : (s.setReg8 r v).pins = s.pins := by
  cases r <;> rfl
@[simp] theorem State.setReg8_resetSeen (s : State) (r : Reg8) (v : Byte) : (s.setReg8 r v).resetSeen = s.resetSeen := by
  cases r <;> rfl
@[simp] theorem State.setReg8_outside (s : State) (r : Reg8) (v : Byte) : (s.setReg8 r v).outside = s.outside := by
  cases r <;> rfl
@[simp] theorem State.setReg8_masters (s : State) (r : Reg8) (v : Byte) : (s.setReg8 r v).masters = s.masters := by
  cases r <;> rfl
@[simp] theorem State.setReg8_ioIn (s : State) (r : Reg8) (v : Byte) : (s.setReg8 r v).ioIn = s.ioIn := by
  cases r <;> rfl
@[simp] theorem State.setReg8_trace (s : State) (r : Reg8) (v : Byte) : (s.setReg8 r v).trace = s.trace := by
  cases r <;> rfl
@[simp] theorem State.setReg8_cur (s : State) (r : Reg8) (v : Byte) : (s.setReg8 r v).cur = s.cur := by
  cases r <;> rfl
@[simp] theorem State.setReg8_drawn (s : State) (r : Reg8) (v : Byte) : (s.setReg8 r v).drawn = s.drawn := by
  cases r <;> rfl
@[simp] theorem State.setReg8_params (s : State) (r : Reg8) (v : Byte) : (s.setReg8 r v).params = s.params := by
  cases r <;> rfl

/-! ### setSreg -/

@[simp] theorem State.setSreg_ax (s : State) (r : SReg) (v : Word) : (s.setSreg r v).ax = s.ax := by
  cases r <;> rfl
@[simp] theorem State.setSreg_cx (s : State) (r : SReg) (v : Word) : (s.setSreg r v).cx = s.cx := by
  cases r <;> rfl
@[simp] theorem State.setSreg_dx (s : State) (r : SReg) (v : Word) : (s.setSreg r v).dx = s.dx := by
  cases r <;> rfl
@[simp] theorem State.setSreg_bx (s : State) (r : SReg) (v : Word) : (s.setSreg r v).bx = s.bx := by
  cases r <;> rfl
@[simp] theorem State.setSreg_sp (s : State) (r : SReg) (v : Word) : (s.setSreg r v).sp = s.sp := by
  cases r <;> rfl
@[simp] theorem State.setSreg_bp (s : State) (r : SReg) (v : Word) : (s.setSreg r v).bp = s.bp := by
  cases r <;> rfl
@[simp] theorem State.setSreg_si (s : State) (r : SReg) (v : Word) : (s.setSreg r v).si = s.si := by
  cases r <;> rfl
@[simp] theorem State.setSreg_di (s : State) (r : SReg) (v : Word) : (s.setSreg r v).di = s.di := by
  cases r <;> rfl
@[simp] theorem State.setSreg_ip (s : State) (r : SReg) (v : Word) : (s.setSreg r v).ip = s.ip := by
  cases r <;> rfl
@[simp] theorem State.setSreg_flags (s : State) (r : SReg) (v : Word) : (s.setSreg r v).flags = s.flags := by
  cases r <;> rfl
@[simp] theorem State.setSreg_nmiPending (s : State) (r : SReg) (v : Word) : (s.setSreg r v).nmiPending = s.nmiPending := by
  cases r <;> rfl
@[simp] theorem State.setSreg_inhibitInt (s : State) (r : SReg) (v : Word) : (s.setSreg r v).inhibitInt = s.inhibitInt := by
  cases r <;> rfl
@[simp] theorem State.setSreg_run (s : State) (r : SReg) (v : Word) : (s.setSreg r v).run = s.run := by
  cases r <;> rfl
@[simp] theorem State.setSreg_busReleased (s : State) (r : SReg) (v : Word) : (s.setSreg r v).busReleased = s.busReleased := by
  cases r <;> rfl
@[simp] theorem State.setSreg_unsampled (s : State) (r : SReg) (v : Word) : (s.setSreg r v).unsampled = s.unsampled := by
  cases r <;> rfl
@[simp] theorem State.setSreg_lock (s : State) (r : SReg) (v : Word) : (s.setSreg r v).lock = s.lock := by
  cases r <;> rfl
@[simp] theorem State.setSreg_beforeFetch (s : State) (r : SReg) (v : Word) : (s.setSreg r v).beforeFetch = s.beforeFetch := by
  cases r <;> rfl
@[simp] theorem State.setSreg_queue (s : State) (r : SReg) (v : Word) : (s.setSreg r v).queue = s.queue := by
  cases r <;> rfl
@[simp] theorem State.setSreg_prefetched (s : State) (r : SReg) (v : Word) : (s.setSreg r v).prefetched = s.prefetched := by
  cases r <;> rfl
@[simp] theorem State.setSreg_mem (s : State) (r : SReg) (v : Word) : (s.setSreg r v).mem = s.mem := by
  cases r <;> rfl
@[simp] theorem State.setSreg_pins (s : State) (r : SReg) (v : Word) : (s.setSreg r v).pins = s.pins := by
  cases r <;> rfl
@[simp] theorem State.setSreg_resetSeen (s : State) (r : SReg) (v : Word) : (s.setSreg r v).resetSeen = s.resetSeen := by
  cases r <;> rfl
@[simp] theorem State.setSreg_outside (s : State) (r : SReg) (v : Word) : (s.setSreg r v).outside = s.outside := by
  cases r <;> rfl
@[simp] theorem State.setSreg_masters (s : State) (r : SReg) (v : Word) : (s.setSreg r v).masters = s.masters := by
  cases r <;> rfl
@[simp] theorem State.setSreg_ioIn (s : State) (r : SReg) (v : Word) : (s.setSreg r v).ioIn = s.ioIn := by
  cases r <;> rfl
@[simp] theorem State.setSreg_trace (s : State) (r : SReg) (v : Word) : (s.setSreg r v).trace = s.trace := by
  cases r <;> rfl
@[simp] theorem State.setSreg_cur (s : State) (r : SReg) (v : Word) : (s.setSreg r v).cur = s.cur := by
  cases r <;> rfl
@[simp] theorem State.setSreg_drawn (s : State) (r : SReg) (v : Word) : (s.setSreg r v).drawn = s.drawn := by
  cases r <;> rfl
@[simp] theorem State.setSreg_params (s : State) (r : SReg) (v : Word) : (s.setSreg r v).params = s.params := by
  cases r <;> rfl

/-! ### setFlags -/

@[simp] theorem State.setFlags_ax (s : State) (f : Flags) : (s.setFlags f).ax = s.ax := rfl
@[simp] theorem State.setFlags_cx (s : State) (f : Flags) : (s.setFlags f).cx = s.cx := rfl
@[simp] theorem State.setFlags_dx (s : State) (f : Flags) : (s.setFlags f).dx = s.dx := rfl
@[simp] theorem State.setFlags_bx (s : State) (f : Flags) : (s.setFlags f).bx = s.bx := rfl
@[simp] theorem State.setFlags_sp (s : State) (f : Flags) : (s.setFlags f).sp = s.sp := rfl
@[simp] theorem State.setFlags_bp (s : State) (f : Flags) : (s.setFlags f).bp = s.bp := rfl
@[simp] theorem State.setFlags_si (s : State) (f : Flags) : (s.setFlags f).si = s.si := rfl
@[simp] theorem State.setFlags_di (s : State) (f : Flags) : (s.setFlags f).di = s.di := rfl
@[simp] theorem State.setFlags_es (s : State) (f : Flags) : (s.setFlags f).es = s.es := rfl
@[simp] theorem State.setFlags_cs (s : State) (f : Flags) : (s.setFlags f).cs = s.cs := rfl
@[simp] theorem State.setFlags_ss (s : State) (f : Flags) : (s.setFlags f).ss = s.ss := rfl
@[simp] theorem State.setFlags_ds (s : State) (f : Flags) : (s.setFlags f).ds = s.ds := rfl
@[simp] theorem State.setFlags_ip (s : State) (f : Flags) : (s.setFlags f).ip = s.ip := rfl
@[simp] theorem State.setFlags_nmiPending (s : State) (f : Flags) : (s.setFlags f).nmiPending = s.nmiPending := rfl
@[simp] theorem State.setFlags_inhibitInt (s : State) (f : Flags) : (s.setFlags f).inhibitInt = s.inhibitInt := rfl
@[simp] theorem State.setFlags_run (s : State) (f : Flags) : (s.setFlags f).run = s.run := rfl
@[simp] theorem State.setFlags_busReleased (s : State) (f : Flags) : (s.setFlags f).busReleased = s.busReleased := rfl
@[simp] theorem State.setFlags_unsampled (s : State) (f : Flags) : (s.setFlags f).unsampled = s.unsampled := rfl
@[simp] theorem State.setFlags_lock (s : State) (f : Flags) : (s.setFlags f).lock = s.lock := rfl
@[simp] theorem State.setFlags_beforeFetch (s : State) (f : Flags) : (s.setFlags f).beforeFetch = s.beforeFetch := rfl
@[simp] theorem State.setFlags_queue (s : State) (f : Flags) : (s.setFlags f).queue = s.queue := rfl
@[simp] theorem State.setFlags_prefetched (s : State) (f : Flags) : (s.setFlags f).prefetched = s.prefetched := rfl
@[simp] theorem State.setFlags_mem (s : State) (f : Flags) : (s.setFlags f).mem = s.mem := rfl
@[simp] theorem State.setFlags_pins (s : State) (f : Flags) : (s.setFlags f).pins = s.pins := rfl
@[simp] theorem State.setFlags_resetSeen (s : State) (f : Flags) : (s.setFlags f).resetSeen = s.resetSeen := rfl
@[simp] theorem State.setFlags_outside (s : State) (f : Flags) : (s.setFlags f).outside = s.outside := rfl
@[simp] theorem State.setFlags_masters (s : State) (f : Flags) : (s.setFlags f).masters = s.masters := rfl
@[simp] theorem State.setFlags_ioIn (s : State) (f : Flags) : (s.setFlags f).ioIn = s.ioIn := rfl
@[simp] theorem State.setFlags_trace (s : State) (f : Flags) : (s.setFlags f).trace = s.trace := rfl
@[simp] theorem State.setFlags_cur (s : State) (f : Flags) : (s.setFlags f).cur = s.cur := rfl
@[simp] theorem State.setFlags_drawn (s : State) (f : Flags) : (s.setFlags f).drawn = s.drawn := rfl
@[simp] theorem State.setFlags_params (s : State) (f : Flags) : (s.setFlags f).params = s.params := rfl
@[simp] theorem State.setFlags_flags (s : State) (f : Flags) : (s.setFlags f).flags = f := rfl

/-! ### write8 -/

@[simp] theorem State.write8_ax (s : State) (b o : Word) (v : Byte) : (s.write8 b o v).ax = s.ax := rfl
@[simp] theorem State.write8_cx (s : State) (b o : Word) (v : Byte) : (s.write8 b o v).cx = s.cx := rfl
@[simp] theorem State.write8_dx (s : State) (b o : Word) (v : Byte) : (s.write8 b o v).dx = s.dx := rfl
@[simp] theorem State.write8_bx (s : State) (b o : Word) (v : Byte) : (s.write8 b o v).bx = s.bx := rfl
@[simp] theorem State.write8_sp (s : State) (b o : Word) (v : Byte) : (s.write8 b o v).sp = s.sp := rfl
@[simp] theorem State.write8_bp (s : State) (b o : Word) (v : Byte) : (s.write8 b o v).bp = s.bp := rfl
@[simp] theorem State.write8_si (s : State) (b o : Word) (v : Byte) : (s.write8 b o v).si = s.si := rfl
@[simp] theorem State.write8_di (s : State) (b o : Word) (v : Byte) : (s.write8 b o v).di = s.di := rfl
@[simp] theorem State.write8_es (s : State) (b o : Word) (v : Byte) : (s.write8 b o v).es = s.es := rfl
@[simp] theorem State.write8_cs (s : State) (b o : Word) (v : Byte) : (s.write8 b o v).cs = s.cs := rfl
@[simp] theorem State.write8_ss (s : State) (b o : Word) (v : Byte) : (s.write8 b o v).ss = s.ss := rfl
@[simp] theorem State.write8_ds (s : State) (b o : Word) (v : Byte) : (s.write8 b o v).ds = s.ds := rfl
@[simp] theorem State.write8_ip (s : State) (b o : Word) (v : Byte) : (s.write8 b o v).ip = s.ip := rfl
@[simp] theorem State.write8_flags (s : State) (b o : Word) (v : Byte) : (s.write8 b o v).flags = s.flags := rfl
@[simp] theorem State.write8_nmiPending (s : State) (b o : Word) (v : Byte) : (s.write8 b o v).nmiPending = s.nmiPending := rfl
@[simp] theorem State.write8_inhibitInt (s : State) (b o : Word) (v : Byte) : (s.write8 b o v).inhibitInt = s.inhibitInt := rfl
@[simp] theorem State.write8_run (s : State) (b o : Word) (v : Byte) : (s.write8 b o v).run = s.run := rfl
@[simp] theorem State.write8_busReleased (s : State) (b o : Word) (v : Byte) : (s.write8 b o v).busReleased = s.busReleased := rfl
@[simp] theorem State.write8_unsampled (s : State) (b o : Word) (v : Byte) : (s.write8 b o v).unsampled = s.unsampled := rfl
@[simp] theorem State.write8_lock (s : State) (b o : Word) (v : Byte) : (s.write8 b o v).lock = s.lock := rfl
@[simp] theorem State.write8_beforeFetch (s : State) (b o : Word) (v : Byte) : (s.write8 b o v).beforeFetch = s.beforeFetch := rfl
@[simp] theorem State.write8_queue (s : State) (b o : Word) (v : Byte) : (s.write8 b o v).queue = s.queue := rfl
@[simp] theorem State.write8_prefetched (s : State) (b o : Word) (v : Byte) : (s.write8 b o v).prefetched = s.prefetched := rfl
@[simp] theorem State.write8_pins (s : State) (b o : Word) (v : Byte) : (s.write8 b o v).pins = s.pins := rfl
@[simp] theorem State.write8_resetSeen (s : State) (b o : Word) (v : Byte) : (s.write8 b o v).resetSeen = s.resetSeen := rfl
@[simp] theorem State.write8_outside (s : State) (b o : Word) (v : Byte) : (s.write8 b o v).outside = s.outside := rfl
@[simp] theorem State.write8_masters (s : State) (b o : Word) (v : Byte) : (s.write8 b o v).masters = s.masters := rfl
@[simp] theorem State.write8_ioIn (s : State) (b o : Word) (v : Byte) : (s.write8 b o v).ioIn = s.ioIn := rfl
@[simp] theorem State.write8_cur (s : State) (b o : Word) (v : Byte) : (s.write8 b o v).cur = s.cur := rfl
@[simp] theorem State.write8_drawn (s : State) (b o : Word) (v : Byte) : (s.write8 b o v).drawn = s.drawn := rfl
@[simp] theorem State.write8_params (s : State) (b o : Word) (v : Byte) : (s.write8 b o v).params = s.params := rfl

/-! ### write16 -/

@[simp] theorem State.write16_ax (s : State) (b o v : Word) : (s.write16 b o v).ax = s.ax := rfl
@[simp] theorem State.write16_cx (s : State) (b o v : Word) : (s.write16 b o v).cx = s.cx := rfl
@[simp] theorem State.write16_dx (s : State) (b o v : Word) : (s.write16 b o v).dx = s.dx := rfl
@[simp] theorem State.write16_bx (s : State) (b o v : Word) : (s.write16 b o v).bx = s.bx := rfl
@[simp] theorem State.write16_sp (s : State) (b o v : Word) : (s.write16 b o v).sp = s.sp := rfl
@[simp] theorem State.write16_bp (s : State) (b o v : Word) : (s.write16 b o v).bp = s.bp := rfl
@[simp] theorem State.write16_si (s : State) (b o v : Word) : (s.write16 b o v).si = s.si := rfl
@[simp] theorem State.write16_di (s : State) (b o v : Word) : (s.write16 b o v).di = s.di := rfl
@[simp] theorem State.write16_es (s : State) (b o v : Word) : (s.write16 b o v).es = s.es := rfl
@[simp] theorem State.write16_cs (s : State) (b o v : Word) : (s.write16 b o v).cs = s.cs := rfl
@[simp] theorem State.write16_ss (s : State) (b o v : Word) : (s.write16 b o v).ss = s.ss := rfl
@[simp] theorem State.write16_ds (s : State) (b o v : Word) : (s.write16 b o v).ds = s.ds := rfl
@[simp] theorem State.write16_ip (s : State) (b o v : Word) : (s.write16 b o v).ip = s.ip := rfl
@[simp] theorem State.write16_flags (s : State) (b o v : Word) : (s.write16 b o v).flags = s.flags := rfl
@[simp] theorem State.write16_nmiPending (s : State) (b o v : Word) : (s.write16 b o v).nmiPending = s.nmiPending := rfl
@[simp] theorem State.write16_inhibitInt (s : State) (b o v : Word) : (s.write16 b o v).inhibitInt = s.inhibitInt := rfl
@[simp] theorem State.write16_run (s : State) (b o v : Word) : (s.write16 b o v).run = s.run := rfl
@[simp] theorem State.write16_busReleased (s : State) (b o v : Word) : (s.write16 b o v).busReleased = s.busReleased := rfl
@[simp] theorem State.write16_unsampled (s : State) (b o v : Word) : (s.write16 b o v).unsampled = s.unsampled := rfl
@[simp] theorem State.write16_lock (s : State) (b o v : Word) : (s.write16 b o v).lock = s.lock := rfl
@[simp] theorem State.write16_beforeFetch (s : State) (b o v : Word) : (s.write16 b o v).beforeFetch = s.beforeFetch := rfl
@[simp] theorem State.write16_queue (s : State) (b o v : Word) : (s.write16 b o v).queue = s.queue := rfl
@[simp] theorem State.write16_prefetched (s : State) (b o v : Word) : (s.write16 b o v).prefetched = s.prefetched := rfl
@[simp] theorem State.write16_pins (s : State) (b o v : Word) : (s.write16 b o v).pins = s.pins := rfl
@[simp] theorem State.write16_resetSeen (s : State) (b o v : Word) : (s.write16 b o v).resetSeen = s.resetSeen := rfl
@[simp] theorem State.write16_outside (s : State) (b o v : Word) : (s.write16 b o v).outside = s.outside := rfl
@[simp] theorem State.write16_masters (s : State) (b o v : Word) : (s.write16 b o v).masters = s.masters := rfl
@[simp] theorem State.write16_ioIn (s : State) (b o v : Word) : (s.write16 b o v).ioIn = s.ioIn := rfl
@[simp] theorem State.write16_cur (s : State) (b o v : Word) : (s.write16 b o v).cur = s.cur := rfl
@[simp] theorem State.write16_drawn (s : State) (b o v : Word) : (s.write16 b o v).drawn = s.drawn := rfl
@[simp] theorem State.write16_params (s : State) (b o v : Word) : (s.write16 b o v).params = s.params := rfl

/-! ### push16 -/

@[simp] theorem State.push16_ax (s : State) (v : Word) : (s.push16 v).ax = s.ax := rfl
@[simp] theorem State.push16_cx (s : State) (v : Word) : (s.push16 v).cx = s.cx := rfl
@[simp] theorem State.push16_dx (s : State) (v : Word) : (s.push16 v).dx = s.dx := rfl
@[simp] theorem State.push16_bx (s : State) (v : Word) : (s.push16 v).bx = s.bx := rfl
@[simp] theorem State.push16_bp (s : State) (v : Word) : (s.push16 v).bp = s.bp := rfl
@[simp] theorem State.push16_si (s : State) (v : Word) : (s.push16 v).si = s.si := rfl
@[simp] theorem State.push16_di (s : State) (v : Word) : (s.push16 v).di = s.di := rfl
@[simp] theorem State.push16_es (s : State) (v : Word) : (s.push16 v).es = s.es := rfl
@[simp] theorem State.push16_cs (s : State) (v : Word) : (s.push16 v).cs = s.cs := rfl
@[simp] theorem State.push16_ss (s : State) (v : Word) : (s.push16 v).ss = s.ss := rfl
@[simp] theorem State.push16_ds (s : State) (v : Word) : (s.push16 v).ds = s.ds := rfl
@[simp] theorem State.push16_ip (s : State) (v : Word) : (s.push16 v).ip = s.ip := rfl
@[simp] theorem State.push16_flags (s : State) (v : Word) : (s.push16 v).flags = s.flags := rfl
@[simp] theorem State.push16_nmiPending (s : State) (v : Word) : (s.push16 v).nmiPending = s.nmiPending := rfl
@[simp] theorem State.push16_inhibitInt (s : State) (v : Word) : (s.push16 v).inhibitInt = s.inhibitInt := rfl
@[simp] theorem State.push16_run (s : State) (v : Word) : (s.push16 v).run = s.run := rfl
@[simp] theorem State.push16_busReleased (s : State) (v : Word) : (s.push16 v).busReleased = s.busReleased := rfl
@[simp] theorem State.push16_unsampled (s : State) (v : Word) : (s.push16 v).unsampled = s.unsampled := rfl
@[simp] theorem State.push16_lock (s : State) (v : Word) : (s.push16 v).lock = s.lock := rfl
@[simp] theorem State.push16_beforeFetch (s : State) (v : Word) : (s.push16 v).beforeFetch = s.beforeFetch := rfl
@[simp] theorem State.push16_queue (s : State) (v : Word) : (s.push16 v).queue = s.queue := rfl
@[simp] theorem State.push16_prefetched (s : State) (v : Word) : (s.push16 v).prefetched = s.prefetched := rfl
@[simp] theorem State.push16_pins (s : State) (v : Word) : (s.push16 v).pins = s.pins := rfl
@[simp] theorem State.push16_resetSeen (s : State) (v : Word) : (s.push16 v).resetSeen = s.resetSeen := rfl
@[simp] theorem State.push16_outside (s : State) (v : Word) : (s.push16 v).outside = s.outside := rfl
@[simp] theorem State.push16_masters (s : State) (v : Word) : (s.push16 v).masters = s.masters := rfl
@[simp] theorem State.push16_ioIn (s : State) (v : Word) : (s.push16 v).ioIn = s.ioIn := rfl
@[simp] theorem State.push16_cur (s : State) (v : Word) : (s.push16 v).cur = s.cur := rfl
@[simp] theorem State.push16_drawn (s : State) (v : Word) : (s.push16 v).drawn = s.drawn := rfl
@[simp] theorem State.push16_params (s : State) (v : Word) : (s.push16 v).params = s.params := rfl
@[simp] theorem State.push16_sp (s : State) (v : Word) : (s.push16 v).sp = s.sp - 2 := rfl

/-! ### drop16 -/

@[simp] theorem State.drop16_ax (s : State) : (s.drop16).ax = s.ax := rfl
@[simp] theorem State.drop16_cx (s : State) : (s.drop16).cx = s.cx := rfl
@[simp] theorem State.drop16_dx (s : State) : (s.drop16).dx = s.dx := rfl
@[simp] theorem State.drop16_bx (s : State) : (s.drop16).bx = s.bx := rfl
@[simp] theorem State.drop16_bp (s : State) : (s.drop16).bp = s.bp := rfl
@[simp] theorem State.drop16_si (s : State) : (s.drop16).si = s.si := rfl
@[simp] theorem State.drop16_di (s : State) : (s.drop16).di = s.di := rfl
@[simp] theorem State.drop16_es (s : State) : (s.drop16).es = s.es := rfl
@[simp] theorem State.drop16_cs (s : State) : (s.drop16).cs = s.cs := rfl
@[simp] theorem State.drop16_ss (s : State) : (s.drop16).ss = s.ss := rfl
@[simp] theorem State.drop16_ds (s : State) : (s.drop16).ds = s.ds := rfl
@[simp] theorem State.drop16_ip (s : State) : (s.drop16).ip = s.ip := rfl
@[simp] theorem State.drop16_flags (s : State) : (s.drop16).flags = s.flags := rfl
@[simp] theorem State.drop16_nmiPending (s : State) : (s.drop16).nmiPending = s.nmiPending := rfl
@[simp] theorem State.drop16_inhibitInt (s : State) : (s.drop16).inhibitInt = s.inhibitInt := rfl
@[simp] theorem State.drop16_run (s : State) : (s.drop16).run = s.run := rfl
@[simp] theorem State.drop16_busReleased (s : State) : (s.drop16).busReleased = s.busReleased := rfl
@[simp] theorem State.drop16_unsampled (s : State) : (s.drop16).unsampled = s.unsampled := rfl
@[simp] theorem State.drop16_lock (s : State) : (s.drop16).lock = s.lock := rfl
@[simp] theorem State.drop16_beforeFetch (s : State) : (s.drop16).beforeFetch = s.beforeFetch := rfl
@[simp] theorem State.drop16_queue (s : State) : (s.drop16).queue = s.queue := rfl
@[simp] theorem State.drop16_prefetched (s : State) : (s.drop16).prefetched = s.prefetched := rfl
@[simp] theorem State.drop16_mem (s : State) : (s.drop16).mem = s.mem := rfl
@[simp] theorem State.drop16_pins (s : State) : (s.drop16).pins = s.pins := rfl
@[simp] theorem State.drop16_resetSeen (s : State) : (s.drop16).resetSeen = s.resetSeen := rfl
@[simp] theorem State.drop16_outside (s : State) : (s.drop16).outside = s.outside := rfl
@[simp] theorem State.drop16_masters (s : State) : (s.drop16).masters = s.masters := rfl
@[simp] theorem State.drop16_ioIn (s : State) : (s.drop16).ioIn = s.ioIn := rfl
@[simp] theorem State.drop16_trace (s : State) : (s.drop16).trace = s.trace := rfl
@[simp] theorem State.drop16_cur (s : State) : (s.drop16).cur = s.cur := rfl
@[simp] theorem State.drop16_drawn (s : State) : (s.drop16).drawn = s.drawn := rfl
@[simp] theorem State.drop16_params (s : State) : (s.drop16).params = s.params := rfl
@[simp] theorem State.drop16_sp (s : State) : (s.drop16).sp = s.sp + 2 := rfl

/-! ### drew -/

@[simp] theorem State.drew_ax (s : State) : (s.drew).ax = s.ax := rfl
@[simp] theorem State.drew_cx (s : State) : (s.drew).cx = s.cx := rfl
@[simp] theorem State.drew_dx (s : State) : (s.drew).dx = s.dx := rfl
@[simp] theorem State.drew_bx (s : State) : (s.drew).bx = s.bx := rfl
@[simp] theorem State.drew_sp (s : State) : (s.drew).sp = s.sp := rfl
@[simp] theorem State.drew_bp (s : State) : (s.drew).bp = s.bp := rfl
@[simp] theorem State.drew_si (s : State) : (s.drew).si = s.si := rfl
@[simp] theorem State.drew_di (s : State) : (s.drew).di = s.di := rfl
@[simp] theorem State.drew_es (s : State) : (s.drew).es = s.es := rfl
@[simp] theorem State.drew_cs (s : State) : (s.drew).cs = s.cs := rfl
@[simp] theorem State.drew_ss (s : State) : (s.drew).ss = s.ss := rfl
@[simp] theorem State.drew_ds (s : State) : (s.drew).ds = s.ds := rfl
@[simp] theorem State.drew_ip (s : State) : (s.drew).ip = s.ip := rfl
@[simp] theorem State.drew_flags (s : State) : (s.drew).flags = s.flags := rfl
@[simp] theorem State.drew_nmiPending (s : State) : (s.drew).nmiPending = s.nmiPending := rfl
@[simp] theorem State.drew_inhibitInt (s : State) : (s.drew).inhibitInt = s.inhibitInt := rfl
@[simp] theorem State.drew_run (s : State) : (s.drew).run = s.run := rfl
@[simp] theorem State.drew_busReleased (s : State) : (s.drew).busReleased = s.busReleased := rfl
@[simp] theorem State.drew_unsampled (s : State) : (s.drew).unsampled = s.unsampled := rfl
@[simp] theorem State.drew_lock (s : State) : (s.drew).lock = s.lock := rfl
@[simp] theorem State.drew_beforeFetch (s : State) : (s.drew).beforeFetch = s.beforeFetch := rfl
@[simp] theorem State.drew_queue (s : State) : (s.drew).queue = s.queue := rfl
@[simp] theorem State.drew_prefetched (s : State) : (s.drew).prefetched = s.prefetched := rfl
@[simp] theorem State.drew_mem (s : State) : (s.drew).mem = s.mem := rfl
@[simp] theorem State.drew_pins (s : State) : (s.drew).pins = s.pins := rfl
@[simp] theorem State.drew_resetSeen (s : State) : (s.drew).resetSeen = s.resetSeen := rfl
@[simp] theorem State.drew_outside (s : State) : (s.drew).outside = s.outside := rfl
@[simp] theorem State.drew_masters (s : State) : (s.drew).masters = s.masters := rfl
@[simp] theorem State.drew_ioIn (s : State) : (s.drew).ioIn = s.ioIn := rfl
@[simp] theorem State.drew_trace (s : State) : (s.drew).trace = s.trace := rfl
@[simp] theorem State.drew_cur (s : State) : (s.drew).cur = s.cur := rfl
@[simp] theorem State.drew_params (s : State) : (s.drew).params = s.params := rfl
@[simp] theorem State.drew_drawn (s : State) : (s.drew).drawn = s.drawn + 1 := rfl

/-! ### record -/

@[simp] theorem State.record_ax (s : State) (c : HostCall) : (s.record c).ax = s.ax := rfl
@[simp] theorem State.record_cx (s : State) (c : HostCall) : (s.record c).cx = s.cx := rfl
@[simp] theorem State.record_dx (s : State) (c : HostCall) : (s.record c).dx = s.dx := rfl
@[simp] theorem State.record_bx (s : State) (c : HostCall) : (s.record c).bx = s.bx := rfl
@[simp] theorem State.record_sp (s : State) (c : HostCall) : (s.record c).sp = s.sp := rfl
@[simp] theorem State.record_bp (s : State) (c : HostCall) : (s.record c).bp = s.bp := rfl
@[simp] theorem State.record_si (s : State) (c : HostCall) : (s.record c).si = s.si := rfl
@[simp] theorem State.record_di (s : State) (c : HostCall) : (s.record c).di = s.di := rfl
@[simp] theorem State.record_es (s : State) (c : HostCall) : (s.record c).es = s.es := rfl
@[simp] theorem State.record_cs (s : State) (c : HostCall) : (s.record c).cs = s.cs := rfl
@[simp] theorem State.record_ss (s : State) (c : HostCall) : (s.record c).ss = s.ss := rfl
@[simp] theorem State.record_ds (s : State) (c : HostCall) : (s.record c).ds = s.ds := rfl
@[simp] theorem State.record_ip (s : State) (c : HostCall) : (s.record c).ip = s.ip := rfl
@[simp] theorem State.record_flags (s : State) (c : HostCall) : (s.record c).flags = s.flags := rfl
@[simp] theorem State.record_nmiPending (s : State) (c : HostCall) : (s.record c).nmiPending = s.nmiPending := rfl
@[simp] theorem State.record_inhibitInt (s : State) (c : HostCall) : (s.record c).inhibitInt = s.inhibitInt := rfl
@[simp] theorem State.record_run (s : State) (c : HostCall) : (s.record c).run = s.run := rfl
@[simp] theorem State.record_busReleased (s : State) (c : HostCall) : (s.record c).busReleased = s.busReleased := rfl
@[simp] theorem State.record_unsampled (s : State) (c : HostCall) : (s.record c).unsampled = s.unsampled := rfl
@[simp] theorem State.record_lock (s : State) (c : HostCall) : (s.record c).lock = s.lock := rfl
@[simp] theorem State.record_beforeFetch (s : State) (c : HostCall) : (s.record c).beforeFetch = s.beforeFetch := rfl
@[simp] theorem State.record_queue (s : State) (c : HostCall) : (s.record c).queue = s.queue := rfl
@[simp] theorem State.record_prefetched (s : State) (c : HostCall) : (s.record c).prefetched = s.prefetched := rfl
@[simp] theorem State.record_mem (s : State) (c : HostCall) : (s.record c).mem = s.mem := rfl
@[simp] theorem State.record_pins (s : State) (c : HostCall) : (s.record c).pins = s.pins := rfl
@[simp] theorem State.record_resetSeen (s : State) (c : HostCall) : (s.record c).resetSeen = s.resetSeen := rfl
@[simp] theorem State.record_outside (s : State) (c : HostCall) : (s.record c).outside = s.outside := rfl
@[simp] theorem State.record_masters (s : State) (c : HostCall) : (s.record c).masters = s.masters := rfl
@[simp] theorem State.record_ioIn (s : State) (c : HostCall) : (s.record c).ioIn = s.ioIn := rfl
@[simp] theorem State.record_cur (s : State) (c : HostCall) : (s.record c).cur = s.cur := rfl
@[simp] theorem State.record_drawn (s : State) (c : HostCall) : (s.record c).drawn = s.drawn := rfl
@[simp] theorem State.record_params (s : State) (c : HostCall) : (s.record c).params = s.params := rfl
@[simp] theorem State.record_trace (s : State) (c : HostCall) : (s.record c).trace = c :: s.trace := rfl

/-! ### jumpNear -/

@[simp] theorem State.jumpNear_ax (s : State) (o : Word) : (s.jumpNear o).ax = s.ax := rfl
@[simp] theorem State.jumpNear_cx (s : State) (o : Word) : (s.jumpNear o).cx = s.cx := rfl
@[simp] theorem State.jumpNear_dx (s : State) (o : Word) : (s.jumpNear o).dx = s.dx := rfl
@[simp] theorem State.jumpNear_bx (s : State) (o : Word) : (s.jumpNear o).bx = s.bx := rfl
@[simp] theorem State.jumpNear_sp (s : State) (o : Word) : (s.jumpNear o).sp = s.sp := rfl
@[simp] theorem State.jumpNear_bp (s : State) (o : Word) : (s.jumpNear o).bp = s.bp := rfl
@[simp] theorem State.jumpNear_si (s : State) (o : Word) : (s.jumpNear o).si = s.si := rfl
@[simp] theorem State.jumpNear_di (s : State) (o : Word) : (s.jumpNear o).di = s.di := rfl
@[simp] theorem State.jumpNear_es (s : State) (o : Word) : (s.jumpNear o).es = s.es := rfl
@[simp] theorem State.jumpNear_cs (s : State) (o : Word) : (s.jumpNear o).cs = s.cs := rfl
@[simp] theorem State.jumpNear_ss (s : State) (o : Word) : (s.jumpNear o).ss = s.ss := rfl
@[simp] theorem State.jumpNear_ds (s : State) (o : Word) : (s.jumpNear o).ds = s.ds := rfl
@[simp] theorem State.jumpNear_flags (s : State) (o : Word) : (s.jumpNear o).flags = s.flags := rfl
@[simp] theorem State.jumpNear_nmiPending (s : State) (o : Word) : (s.jumpNear o).nmiPending = s.nmiPending := rfl
@[simp] theorem State.jumpNear_inhibitInt (s : State) (o : Word) : (s.jumpNear o).inhibitInt = s.inhibitInt := rfl
@[simp] theorem State.jumpNear_run (s : State) (o : Word) : (s.jumpNear o).run = s.run := rfl
@[simp] theorem State.jumpNear_busReleased (s : State) (o : Word) : (s.jumpNear o).busReleased = s.busReleased := rfl
@[simp] theorem State.jumpNear_unsampled (s : State) (o : Word) : (s.jumpNear o).unsampled = s.unsampled := rfl
@[simp] theorem State.jumpNear_lock (s : State) (o : Word) : (s.jumpNear o).lock = s.lock := rfl
@[simp] theorem State.jumpNear_beforeFetch (s : State) (o : Word) : (s.jumpNear o).beforeFetch = s.beforeFetch := rfl
@[simp] theorem State.jumpNear_mem (s : State) (o : Word) : (s.jumpNear o).mem = s.mem := rfl
@[simp] theorem State.jumpNear_pins (s : State) (o : Word) : (s.jumpNear o).pins = s.pins := rfl
@[simp] theorem State.jumpNear_resetSeen (s : State) (o : Word) : (s.jumpNear o).resetSeen = s.resetSeen := rfl
@[simp] theorem State.jumpNear_outside (s : State) (o : Word) : (s.jumpNear o).outside = s.outside := rfl
@[simp] theorem State.jumpNear_masters (s : State) (o : Word) : (s.jumpNear o).masters = s.masters := rfl
@[simp] theorem State.jumpNear_ioIn (s : State) (o : Word) : (s.jumpNear o).ioIn = s.ioIn := rfl
@[simp] theorem State.jumpNear_trace (s : State) (o : Word) : (s.jumpNear o).trace = s.trace := rfl
@[simp] theorem State.jumpNear_drawn (s : State) (o : Word) : (s.jumpNear o).drawn = s.drawn := rfl
@[simp] theorem State.jumpNear_params (s : State) (o : Word) : (s.jumpNear o).params = s.params := rfl
@[simp] theorem State.jumpNear_ip (s : State) (o : Word) : (s.jumpNear o).ip = o := rfl
@[simp] theorem State.jumpNear_queue (s : State) (o : Word) : (s.jumpNear o).queue = [] := rfl
@[simp] theorem State.jumpNear_prefetched (s : State) (o : Word) : (s.jumpNear o).prefetched = 0 := rfl

/-! ### jumpFar -/

@[simp] theorem State.jumpFar_ax (s : State) (b o : Word) : (s.jumpFar b o).ax = s.ax := rfl
@[simp] theorem State.jumpFar_cx (s : State) (b o : Word) : (s.jumpFar b o).cx = s.cx := rfl
@[simp] theorem State.jumpFar_dx (s : State) (b o : Word) : (s.jumpFar b o).dx = s.dx := rfl
@[simp] theorem State.jumpFar_bx (s : State) (b o : Word) : (s.jumpFar b o).bx = s.bx := rfl
@[simp] theorem State.jumpFar_sp (s : State) (b o : Word) : (s.jumpFar b o).sp = s.sp := rfl
@[simp] theorem State.jumpFar_bp (s : State) (b o : Word) : (s.jumpFar b o).bp = s.bp := rfl
@[simp] theorem State.jumpFar_si (s : State) (b o : Word) : (s.jumpFar b o).si = s.si := rfl
@[simp] theorem State.jumpFar_di (s : State) (b o : Word) : (s.jumpFar b o).di = s.di := rfl
@[simp] theorem State.jumpFar_es (s : State) (b o : Word) : (s.jumpFar b o).es = s.es := rfl
@[simp] theorem State.jumpFar_ss (s : State) (b o : Word) : (s.jumpFar b o).ss = s.ss := rfl
@[simp] theorem State.jumpFar_ds (s : State) (b o : Word) : (s.jumpFar b o).ds = s.ds := rfl
@[simp] theorem State.jumpFar_flags (s : State) (b o : Word) : (s.jumpFar b o).flags = s.flags := rfl
@[simp] theorem State.jumpFar_nmiPending (s : State) (b o : Word) : (s.jumpFar b o).nmiPending = s.nmiPending := rfl
@[simp] theorem State.jumpFar_inhibitInt (s : State) (b o : Word) : (s.jumpFar b o).inhibitInt = s.inhibitInt := rfl
@[simp] theorem State.jumpFar_run (s : State) (b o : Word) : (s.jumpFar b o).run = s.run := rfl
@[simp] theorem State.jumpFar_busReleased (s : State) (b o : Word) : (s.jumpFar b o).busReleased = s.busReleased := rfl
@[simp] theorem State.jumpFar_unsampled (s : State) (b o : Word) : (s.jumpFar b o).unsampled = s.unsampled := rfl
@[simp] theorem State.jumpFar_lock (s : State) (b o : Word) : (s.jumpFar b o).lock = s.lock := rfl
@[simp] theorem State.jumpFar_beforeFetch (s : State) (b o : Word) : (s.jumpFar b o).beforeFetch = s.beforeFetch := rfl
@[simp] theorem State.jumpFar_mem (s : State) (b o : Word) : (s.jumpFar b o).mem = s.mem := rfl
@[simp] theorem State.jumpFar_pins (s : State) (b o : Word) : (s.jumpFar b o).pins = s.pins := rfl
@[simp] theorem State.jumpFar_resetSeen (s : State) (b o : Word) : (s.jumpFar b o).resetSeen = s.resetSeen := rfl
@[simp] theorem State.jumpFar_outside (s : State) (b o : Word) : (s.jumpFar b o).outside = s.outside := rfl
@[simp] theorem State.jumpFar_masters (s : State) (b o : Word) : (s.jumpFar b o).masters = s.masters := rfl
@[simp] theorem State.jumpFar_ioIn (s : State) (b o : Word) : (s.jumpFar b o).ioIn = s.ioIn := rfl
@[simp] theorem State.jumpFar_trace (s : State) (b o : Word) : (s.jumpFar b o).trace = s.trace := rfl
@[simp] theorem State.jumpFar_drawn (s : State) (b o : Word) : (s.jumpFar b o).drawn = s.drawn := rfl
@[simp] theorem State.jumpFar_params (s : State) (b o : Word) : (s.jumpFar b o).params = s.params := rfl
@[simp] theorem State.jumpFar_cs (s : State) (b o : Word) : (s.jumpFar b o).cs = b := rfl
@[simp] theorem State.jumpFar_ip (s : State) (b o : Word) : (s.jumpFar b o).ip = o := rfl
@[simp] theorem State.jumpFar_queue (s : State) (b o : Word) : (s.jumpFar b o).queue = [] := rfl
@[simp] theorem State.jumpFar_prefetched (s : State) (b o : Word) : (s.jumpFar b o).prefetched = 0 := rfl

/-! ### maskInterrupts -/

@[simp] theorem State.maskInterrupts_ax (s : State) : (s.maskInterrupts).ax = s.ax := rfl
@[simp] theorem State.maskInterrupts_cx (s : State) : (s.maskInterrupts).cx = s.cx := rfl
@[simp] theorem State.maskInterrupts_dx (s : State) : (s.maskInterrupts).dx = s.dx := rfl
@[simp] theorem State.maskInterrupts_bx (s : State) : (s.maskInterrupts).bx = s.bx := rfl
@[simp] theorem State.maskInterrupts_sp (s : State) : (s.maskInterrupts).sp = s.sp := rfl
@[simp] theorem State.maskInterrupts_bp (s : State) : (s.maskInterrupts).bp = s.bp := rfl
@[simp] theorem State.maskInterrupts_si (s : State) : (s.maskInterrupts).si = s.si := rfl
@[simp] theorem State.maskInterrupts_di (s : State) : (s.maskInterrupts).di = s.di := rfl
@[simp] theorem State.maskInterrupts_es (s : State) : (s.maskInterrupts).es = s.es := rfl
@[simp] theorem State.maskInterrupts_cs (s : State) : (s.maskInterrupts).cs = s.cs := rfl
@[simp] theorem State.maskInterrupts_ss (s : State) : (s.maskInterrupts).ss = s.ss := rfl
@[simp] theorem State.maskInterrupts_ds (s : State) : (s.maskInterrupts).ds = s.ds := rfl
@[simp] theorem State.maskInterrupts_ip (s : State) : (s.maskInterrupts).ip = s.ip := rfl
@[simp] theorem State.maskInterrupts_nmiPending (s : State) : (s.maskInterrupts).nmiPending = s.nmiPending := rfl
@[simp] theorem State.maskInterrupts_inhibitInt (s : State) : (s.maskInterrupts).inhibitInt = s.inhibitInt := rfl
@[simp] theorem State.maskInterrupts_run (s : State) : (s.maskInterrupts).run = s.run := rfl
@[simp] theorem State.maskInterrupts_busReleased (s : State) : (s.maskInterrupts).busReleased = s.busReleased := rfl
@[simp] theorem State.maskInterrupts_unsampled (s : State) : (s.maskInterrupts).unsampled = s.unsampled := rfl
@[simp] theorem State.maskInterrupts_lock (s : State) : (s.maskInterrupts).lock = s.lock := rfl
@[simp] theorem State.maskInterrupts_beforeFetch (s : State) : (s.maskInterrupts).beforeFetch = s.beforeFetch := rfl
@[simp] theorem State.maskInterrupts_queue (s : State) : (s.maskInterrupts).queue = s.queue := rfl
@[simp] theorem State.maskInterrupts_prefetched (s : State) : (s.maskInterrupts).prefetched = s.prefetched := rfl
@[simp] theorem State.maskInterrupts_mem (s : State) : (s.maskInterrupts).mem = s.mem := rfl
@[simp] theorem State.maskInterrupts_pins (s : State) : (s.maskInterrupts).pins = s.pins := rfl
@[simp] theorem State.maskInterrupts_resetSeen (s : State) : (s.maskInterrupts).resetSeen = s.resetSeen := rfl
@[simp] theorem State.maskInterrupts_outside (s : State) : (s.maskInterrupts).outside = s.outside := rfl
@[simp] theorem State.maskInterrupts_masters (s : State) : (s.maskInterrupts).masters = s.masters := rfl
@[simp] theorem State.maskInterrupts_ioIn (s : State) : (s.maskInterrupts).ioIn = s.ioIn := rfl
@[simp] theorem State.maskInterrupts_trace (s : State) : (s.maskInterrupts).trace = s.trace := rfl
@[simp] theorem State.maskInterrupts_cur (s : State) : (s.maskInterrupts).cur = s.cur := rfl
@[simp] theorem State.maskInterrupts_drawn (s : State) : (s.maskInterrupts).drawn = s.drawn := rfl
@[simp] theorem State.maskInterrupts_params (s : State) : (s.maskInterrupts).params = s.params := rfl
@[simp] theorem State.maskInterrupts_flags (s : State) : (s.maskInterrupts).flags = { s.flags with iF := false, tF := false } := rfl

/-! ### setLock -/

@[simp] theorem State.setLock_ax (s : State) (on : Bool) : (s.setLock on).ax = s.ax := rfl
@[simp] theorem State.setLock_cx (s : State) (on : Bool) : (s.setLock on).cx = s.cx := rfl
@[simp] theorem State.setLock_dx (s : State) (on : Bool) : (s.setLock on).dx = s.dx := rfl
@[simp] theorem State.setLock_bx (s : State) (on : Bool) : (s.setLock on).bx = s.bx := rfl
@[simp] theorem State.setLock_sp (s : State) (on : Bool) : (s.setLock on).sp = s.sp := rfl
@[simp] theorem State.setLock_bp (s : State) (on : Bool) : (s.setLock on).bp = s.bp := rfl
@[simp] theorem State.setLock_si (s : State) (on : Bool) : (s.setLock on).si = s.si := rfl
@[simp] theorem State.setLock_di (s : State) (on : Bool) : (s.setLock on).di = s.di := rfl
@[simp] theorem State.setLock_es (s : State) (on : Bool) : (s.setLock on).es = s.es := rfl
@[simp] theorem State.setLock_cs (s : State) (on : Bool) : (s.setLock on).cs = s.cs := rfl
@[simp] theorem State.setLock_ss (s : State) (on : Bool) : (s.setLock on).ss = s.ss := rfl
@[simp] theorem State.setLock_ds (s : State) (on : Bool) : (s.setLock on).ds = s.ds := rfl
@[simp] theorem State.setLock_ip (s : State) (on : Bool) : (s.setLock on).ip = s.ip := rfl
@[simp] theorem State.setLock_flags (s : State) (on : Bool) : (s.setLock on).flags = s.flags := rfl
@[simp] theorem State.setLock_nmiPending (s : State) (on : Bool) : (s.setLock on).nmiPending = s.nmiPending := rfl
@[simp] theorem State.setLock_inhibitInt (s : State) (on : Bool) : (s.setLock on).inhibitInt = s.inhibitInt := rfl
@[simp] theorem State.setLock_run (s : State) (on : Bool) : (s.setLock on).run = s.run := rfl
@[simp] theorem State.setLock_busReleased (s : State) (on : Bool) : (s.setLock on).busReleased = s.busReleased := rfl
@[simp] theorem State.setLock_unsampled (s : State) (on : Bool) : (s.setLock on).unsampled = s.unsampled := rfl
@[simp] theorem State.setLock_beforeFetch (s : State) (on : Bool) : (s.setLock on).beforeFetch = s.beforeFetch := rfl
@[simp] theorem State.setLock_queue (s : State) (on : Bool) : (s.setLock on).queue = s.queue := rfl
@[simp] theorem State.setLock_prefetched (s : State) (on : Bool) : (s.setLock on).prefetched = s.prefetched := rfl
@[simp] theorem State.setLock_mem (s : State) (on : Bool) : (s.setLock on).mem = s.mem := rfl
@[simp] theorem State.setLock_pins (s : State) (on : Bool) : (s.setLock on).pins = s.pins := rfl
@[simp] theorem State.setLock_resetSeen (s : State) (on : Bool) : (s.setLock on).resetSeen = s.resetSeen := rfl
@[simp] theorem State.setLock_outside (s : State) (on : Bool) : (s.setLock on).outside = s.outside := rfl
@[simp] theorem State.setLock_masters (s : State) (on : Bool) : (s.setLock on).masters = s.masters := rfl
@[simp] theorem State.setLock_ioIn (s : State) (on : Bool) : (s.setLock on).ioIn = s.ioIn := rfl
@[simp] theorem State.setLock_cur (s : State) (on : Bool) : (s.setLock on).cur = s.cur := rfl
@[simp] theorem State.setLock_drawn (s : State) (on : Bool) : (s.setLock on).drawn = s.drawn := rfl
@[simp] theorem State.setLock_params (s : State) (on : Bool) : (s.setLock on).params = s.params := rfl
@[simp] theorem State.setLock_lock (s : State) (on : Bool) : (s.setLock on).lock = on := rfl

/-! ### release -/

@[simp] theorem State.release_ax (s : State) (m : BusMaster) : (s.release m).ax = s.ax := rfl
@[simp] theorem State.release_cx (s : State) (m : BusMaster) : (s.release m).cx = s.cx := rfl
@[simp] theorem State.release_dx (s : State) (m : BusMaster) : (s.release m).dx = s.dx := rfl
@[simp] theorem State.release_bx (s : State) (m : BusMaster) : (s.release m).bx = s.bx := rfl
@[simp] theorem State.release_sp (s : State) (m : BusMaster) : (s.release m).sp = s.sp := rfl
@[simp] theorem State.release_bp (s : State) (m : BusMaster) : (s.release m).bp = s.bp := rfl
@[simp] theorem State.release_si (s : State) (m : BusMaster) : (s.release m).si = s.si := rfl
@[simp] theorem State.release_di (s : State) (m : BusMaster) : (s.release m).di = s.di := rfl
@[simp] theorem State.release_es (s : State) (m : BusMaster) : (s.release m).es = s.es := rfl
@[simp] theorem State.release_cs (s : State) (m : BusMaster) : (s.release m).cs = s.cs := rfl
@[simp] theorem State.release_ss (s : State) (m : BusMaster) : (s.release m).ss = s.ss := rfl
@[simp] theorem State.release_ds (s : State) (m : BusMaster) : (s.release m).ds = s.ds := rfl
@[simp] theorem State.release_ip (s : State) (m : BusMaster) : (s.release m).ip = s.ip := rfl
@[simp] theorem State.release_flags (s : State) (m : BusMaster) : (s.release m).flags = s.flags := rfl
@[simp] theorem State.release_nmiPending (s : State) (m : BusMaster) : (s.release m).nmiPending = s.nmiPending := rfl
@[simp] theorem State.release_inhibitInt (s : State) (m : BusMaster) : (s.release m).inhibitInt = s.inhibitInt := rfl
@[simp] theorem State.release_run (s : State) (m : BusMaster) : (s.release m).run = s.run := rfl
@[simp] theorem State.release_unsampled (s : State) (m : BusMaster) : (s.release m).unsampled = s.unsampled := rfl
@[simp] theorem State.release_lock (s : State) (m : BusMaster) : (s.release m).lock = s.lock := rfl
@[simp] theorem State.release_beforeFetch (s : State) (m : BusMaster) : (s.release m).beforeFetch = s.beforeFetch := rfl
@[simp] theorem State.release_queue (s : State) (m : BusMaster) : (s.release m).queue = s.queue := rfl
@[simp] theorem State.release_prefetched (s : State) (m : BusMaster) : (s.release m).prefetched = s.prefetched := rfl
@[simp] theorem State.release_mem (s : State) (m : BusMaster) : (s.release m).mem = s.mem := rfl
@[simp] theorem State.release_pins (s : State) (m : BusMaster) : (s.release m).pins = s.pins := rfl
@[simp] theorem State.release_resetSeen (s : State) (m : BusMaster) : (s.release m).resetSeen = s.resetSeen := rfl
@[simp] theorem State.release_outside (s : State) (m : BusMaster) : (s.release m).outside = s.outside := rfl
@[simp] theorem State.release_masters (s : State) (m : BusMaster) : (s.release m).masters = s.masters := rfl
@[simp] theorem State.release_ioIn (s : State) (m : BusMaster) : (s.release m).ioIn = s.ioIn := rfl
@[simp] theorem State.release_cur (s : State) (m : BusMaster) : (s.release m).cur = s.cur := rfl
@[simp] theorem State.release_drawn (s : State) (m : BusMaster) : (s.release m).drawn = s.drawn := rfl
@[simp] theorem State.release_params (s : State) (m : BusMaster) : (s.release m).params = s.params := rfl
@[simp] theorem State.release_busReleased (s : State) (m : BusMaster) : (s.release m).busReleased = some m := rfl

/-! ### regain -/

@[simp] theorem State.regain_ax (s : State) : (s.regain).ax = s.ax := rfl
@[simp] theorem State.regain_cx (s : State) : (s.regain).cx = s.cx := rfl
@[simp] theorem State.regain_dx (s : State) : (s.regain).dx = s.dx := rfl
@[simp] theorem State.regain_bx (s : State) : (s.regain).bx = s.bx := rfl
@[simp] theorem State.regain_sp (s : State) : (s.regain).sp = s.sp := rfl
@[simp] theorem State.regain_bp (s : State) : (s.regain).bp = s.bp := rfl
@[simp] theorem State.regain_si (s : State) : (s.regain).si = s.si := rfl
@[simp] theorem State.regain_di (s : State) : (s.regain).di = s.di := rfl
@[simp] theorem State.regain_es (s : State) : (s.regain).es = s.es := rfl
@[simp] theorem State.regain_cs (s : State) : (s.regain).cs = s.cs := rfl
@[simp] theorem State.regain_ss (s : State) : (s.regain).ss = s.ss := rfl
@[simp] theorem State.regain_ds (s : State) : (s.regain).ds = s.ds := rfl
@[simp] theorem State.regain_ip (s : State) : (s.regain).ip = s.ip := rfl
@[simp] theorem State.regain_flags (s : State) : (s.regain).flags = s.flags := rfl
@[simp] theorem State.regain_nmiPending (s : State) : (s.regain).nmiPending = s.nmiPending := rfl
@[simp] theorem State.regain_inhibitInt (s : State) : (s.regain).inhibitInt = s.inhibitInt := rfl
@[simp] theorem State.regain_run (s : State) : (s.regain).run = s.run := rfl
@[simp] theorem State.regain_unsampled (s : State) : (s.regain).unsampled = s.unsampled := rfl
@[simp] theorem State.regain_lock (s : State) : (s.regain).lock = s.lock := rfl
@[simp] theorem State.regain_queue (s : State) : (s.regain).queue = s.queue := rfl
@[simp] theorem State.regain_prefetched (s : State) : (s.regain).prefetched = s.prefetched := rfl
@[simp] theorem State.regain_mem (s : State) : (s.regain).mem = s.mem := rfl
@[simp] theorem State.regain_pins (s : State) : (s.regain).pins = s.pins := rfl
@[simp] theorem State.regain_resetSeen (s : State) : (s.regain).resetSeen = s.resetSeen := rfl
@[simp] theorem State.regain_outside (s : State) : (s.regain).outside = s.outside := rfl
@[simp] theorem State.regain_masters (s : State) : (s.regain).masters = s.masters := rfl
@[simp] theorem State.regain_ioIn (s : State) : (s.regain).ioIn = s.ioIn := rfl
@[simp] theorem State.regain_cur (s : State) : (s.regain).cur = s.cur := rfl
@[simp] theorem State.regain_drawn (s : State) : (s.regain).drawn = s.drawn := rfl
@[simp] theorem State.regain_params (s : State) : (s.regain).params = s.params := rfl
@[simp] theorem State.regain_busReleased (s : State) : (s.regain).busReleased = none := rfl
@[simp] theorem State.regain_beforeFetch (s : State) : s.regain.beforeFetch = [] := rfl

/-! ### giveBack -/

@[simp] theorem State.giveBack_ax (s : State) (m : BusMaster) : (s.giveBack m).ax = s.ax := rfl
@[simp] theorem State.giveBack_cx (s : State) (m : BusMaster) : (s.giveBack m).cx = s.cx := rfl
@[simp] theorem State.giveBack_dx (s : State) (m : BusMaster) : (s.giveBack m).dx = s.dx := rfl
@[simp] theorem State.giveBack_bx (s : State) (m : BusMaster) : (s.giveBack m).bx = s.bx := rfl
@[simp] theorem State.giveBack_sp (s : State) (m : BusMaster) : (s.giveBack m).sp = s.sp := rfl
@[simp] theorem State.giveBack_bp (s : State) (m : BusMaster) : (s.giveBack m).bp = s.bp := rfl
@[simp] theorem State.giveBack_si (s : State) (m : BusMaster) : (s.giveBack m).si = s.si := rfl
@[simp] theorem State.giveBack_di (s : State) (m : BusMaster) : (s.giveBack m).di = s.di := rfl
@[simp] theorem State.giveBack_es (s : State) (m : BusMaster) : (s.giveBack m).es = s.es := rfl
@[simp] theorem State.giveBack_cs (s : State) (m : BusMaster) : (s.giveBack m).cs = s.cs := rfl
@[simp] theorem State.giveBack_ss (s : State) (m : BusMaster) : (s.giveBack m).ss = s.ss := rfl
@[simp] theorem State.giveBack_ds (s : State) (m : BusMaster) : (s.giveBack m).ds = s.ds := rfl
@[simp] theorem State.giveBack_ip (s : State) (m : BusMaster) : (s.giveBack m).ip = s.ip := rfl
@[simp] theorem State.giveBack_flags (s : State) (m : BusMaster) : (s.giveBack m).flags = s.flags := rfl
@[simp] theorem State.giveBack_nmiPending (s : State) (m : BusMaster) : (s.giveBack m).nmiPending = s.nmiPending := rfl
@[simp] theorem State.giveBack_inhibitInt (s : State) (m : BusMaster) : (s.giveBack m).inhibitInt = s.inhibitInt := rfl
@[simp] theorem State.giveBack_run (s : State) (m : BusMaster) : (s.giveBack m).run = s.run := rfl
@[simp] theorem State.giveBack_unsampled (s : State) (m : BusMaster) : (s.giveBack m).unsampled = s.unsampled := rfl
@[simp] theorem State.giveBack_lock (s : State) (m : BusMaster) : (s.giveBack m).lock = s.lock := rfl
@[simp] theorem State.giveBack_queue (s : State) (m : BusMaster) : (s.giveBack m).queue = s.queue := rfl
@[simp] theorem State.giveBack_prefetched (s : State) (m : BusMaster) : (s.giveBack m).prefetched = s.prefetched := rfl
@[simp] theorem State.giveBack_mem (s : State) (m : BusMaster) : (s.giveBack m).mem = s.mem := rfl
@[simp] theorem State.giveBack_pins (s : State) (m : BusMaster) : (s.giveBack m).pins = s.pins := rfl
@[simp] theorem State.giveBack_resetSeen (s : State) (m : BusMaster) : (s.giveBack m).resetSeen = s.resetSeen := rfl
@[simp] theorem State.giveBack_outside (s : State) (m : BusMaster) : (s.giveBack m).outside = s.outside := rfl
@[simp] theorem State.giveBack_masters (s : State) (m : BusMaster) : (s.giveBack m).masters = s.masters := rfl
@[simp] theorem State.giveBack_ioIn (s : State) (m : BusMaster) : (s.giveBack m).ioIn = s.ioIn := rfl
@[simp] theorem State.giveBack_cur (s : State) (m : BusMaster) : (s.giveBack m).cur = s.cur := rfl
@[simp] theorem State.giveBack_drawn (s : State) (m : BusMaster) : (s.giveBack m).drawn = s.drawn := rfl
@[simp] theorem State.giveBack_params (s : State) (m : BusMaster) : (s.giveBack m).params = s.params := rfl

/-! ### busGap -/

@[simp] theorem State.busGap_ax (s : State) : (s.busGap).ax = s.ax := by
  unfold State.busGap; split <;> (try split) <;> rfl
@[simp] theorem State.busGap_cx (s : State) : (s.busGap).cx = s.cx := by
  unfold State.busGap; split <;> (try split) <;> rfl
@[simp] theorem State.busGap_dx (s : State) : (s.busGap).dx = s.dx := by
  unfold State.busGap; split <;> (try split) <;> rfl
@[simp] theorem State.busGap_bx (s : State) : (s.busGap).bx = s.bx := by
  unfold State.busGap; split <;> (try split) <;> rfl
@[simp] theorem State.busGap_sp (s : State) : (s.busGap).sp = s.sp := by
  unfold State.busGap; split <;> (try split) <;> rfl
@[simp] theorem State.busGap_bp (s : State) : (s.busGap).bp = s.bp := by
  unfold State.busGap; split <;> (try split) <;> rfl
@[simp] theorem State.busGap_si (s : State) : (s.busGap).si = s.si := by
  unfold State.busGap; split <;> (try split) <;> rfl
@[simp] theorem State.busGap_di (s : State) : (s.busGap).di = s.di := by
  unfold State.busGap; split <;> (try split) <;> rfl
@[simp] theorem State.busGap_es (s : State) : (s.busGap).es = s.es := by
  unfold State.busGap; split <;> (try split) <;> rfl
@[simp] theorem State.busGap_cs (s : State) : (s.busGap).cs = s.cs := by
  unfold State.busGap; split <;> (try split) <;> rfl
@[simp] theorem State.busGap_ss (s : State) : (s.busGap).ss = s.ss := by
  unfold State.busGap; split <;> (try split) <;> rfl
@[simp] theorem State.busGap_ds (s : State) : (s.busGap).ds = s.ds := by
  unfold State.busGap; split <;> (try split) <;> rfl
@[simp] theorem State.busGap_ip (s : State) : (s.busGap).ip = s.ip := by
  unfold State.busGap; split <;> (try split) <;> rfl
@[simp] theorem State.busGap_flags (s : State) : (s.busGap).flags = s.flags := by
  unfold State.busGap; split <;> (try split) <;> rfl
@[simp] theorem State.busGap_nmiPending (s : State) : (s.busGap).nmiPending = s.nmiPending := by
  unfold State.busGap; split <;> (try split) <;> rfl
@[simp] theorem State.busGap_inhibitInt (s : State) : (s.busGap).inhibitInt = s.inhibitInt := by
  unfold State.busGap; split <;> (try split) <;> rfl
@[simp] theorem State.busGap_run (s : State) : (s.busGap).run = s.run := by
  unfold State.busGap; split <;> (try split) <;> rfl
@[simp] theorem State.busGap_busReleased (s : State) : (s.busGap).busReleased = s.busReleased := by
  unfold State.busGap; split <;> (try split) <;> rfl
@[simp] theorem State.busGap_unsampled (s : State) : (s.busGap).unsampled = s.unsampled := by
  unfold State.busGap; split <;> (try split) <;> rfl
@[simp] theorem State.busGap_lock (s : State) : (s.busGap).lock = s.lock := by
  unfold State.busGap; split <;> (try split) <;> rfl
@[simp] theorem State.busGap_beforeFetch (s : State) : (s.busGap).beforeFetch = s.beforeFetch := by
  unfold State.busGap; split <;> (try split) <;> rfl
@[simp] theorem State.busGap_queue (s : State) : (s.busGap).queue = s.queue := by
  unfold State.busGap; split <;> (try split) <;> rfl
@[simp] theorem State.busGap_prefetched (s : State) : (s.busGap).prefetched = s.prefetched := by
  unfold State.busGap; split <;> (try split) <;> rfl
@[simp] theorem State.busGap_pins (s : State) : (s.busGap).pins = s.pins := by
  unfold State.busGap; split <;> (try split) <;> rfl
@[simp] theorem State.busGap_resetSeen (s : State) : (s.busGap).resetSeen = s.resetSeen := by
  unfold State.busGap; split <;> (try split) <;> rfl
@[simp] theorem State.busGap_outside (s : State) : (s.busGap).outside = s.outside := by
  unfold State.busGap; split <;> (try split) <;> rfl
@[simp] theorem State.busGap_ioIn (s : State) : (s.busGap).ioIn = s.ioIn := by
  unfold State.busGap; split <;> (try split) <;> rfl
@[simp] theorem State.busGap_trace (s : State) : (s.busGap).trace = s.trace := by
  unfold State.busGap; split <;> (try split) <;> rfl
@[simp] theorem State.busGap_cur (s : State) : (s.busGap).cur = s.cur := by
  unfold State.busGap; split <;> (try split) <;> rfl
@[simp] theorem State.busGap_drawn (s : State) : (s.busGap).drawn = s.drawn := by
  unfold State.busGap; split <;> (try split) <;> rfl
@[simp] theorem State.busGap_params (s : State) : (s.busGap).params = s.params := by
  unfold State.busGap; split <;> (try split) <;> rfl

/-! ### Registers read after registers written -/

theorem State.reg16_setReg16 (s : State) (r r' : Reg16) (v : Word) :
    (s.setReg16 r v).reg16 r' = if r' = r then v else s.reg16 r' := by
  cases r <;> cases r' <;> rfl

@[simp] theorem State.reg16_setReg16_same (s : State) (r : Reg16) (v : Word) : (s.setReg16 r v).reg16 r = v := by
  cases r <;> rfl

theorem State.sreg_setSreg (s : State) (r r' : SReg) (v : Word) :
    (s.setSreg r v).sreg r' = if r' = r then v else s.sreg r' := by
  cases r <;> cases r' <;> rfl

@[simp] theorem State.sreg_setReg16 (s : State) (r : Reg16) (v : Word) (q : SReg) :
    (s.setReg16 r v).sreg q = s.sreg q := by
  cases r <;> cases q <;> rfl

@[simp] theorem State.sreg_setReg8 (s : State) (r : Reg8) (v : Byte) (q : SReg) :
    (s.setReg8 r v).sreg q = s.sreg q := by
  cases r <;> cases q <;> rfl

@[simp] theorem State.reg16_setSreg (s : State) (r : SReg) (v : Word) (q : Reg16) :
    (s.setSreg r v).reg16 q = s.reg16 q := by
  cases r <;> cases q <;> rfl

end Sys2Proof.Machine
end

