-- ==== Sys2Proof/Laws/Ops.lean ====
section
/-! SUPPORT. For each shared operation one lemma that says everything it does, in the terms of Safety, for the provers
to cite in place of its definition. -/
namespace Sys2Proof.Machine

/-! ## Keeping -/

theorem State.regsKept_of_same {s t : State} (l : List Reg16) (h : ∀ r, t.reg16 r = s.reg16 r) : State.regsKept s t l :=
  fun r _ => h r

theorem State.regsKept_mono {s t : State} {l l' : List Reg16} (h : State.regsKept s t l) (hl : ∀ r ∈ l, r ∈ l') :
    State.regsKept s t l' := fun r hr => h r fun h' => hr (hl r h')

theorem State.memKept_mono {s t : State} {p q : Nat → Prop} (h : State.memKept s t p) (hp : ∀ a, p a → q a) :
    State.memKept s t q := by
  obtain ⟨h1, l, h2, h3⟩ := h
  exact ⟨fun a ha => h1 a fun h' => ha ⟨hp a h'.1, h'.2⟩, l, h2,
    fun c hc => ⟨(h3 c hc).1, fun a ha => ⟨hp a ((h3 c hc).2 a ha).1, ((h3 c hc).2 a ha).2⟩⟩⟩

theorem State.memKept_of_eq {s t : State} (p : Nat → Prop) (h : t.mem = s.mem) (h' : t.trace = s.trace) :
    State.memKept s t p :=
  ⟨fun a _ => by rw [h], [], by simp [h'], by simp⟩

/-- Only the memory, the trace and the memory map matter to `memKept`. -/
theorem State.memKept_congr {s t s' t' : State} {p : Nat → Prop} (h : State.memKept s t p) (h1 : s'.mem = s.mem)
    (h2 : s'.trace = s.trace) (h3 : s'.params = s.params) (h4 : t'.mem = t.mem) (h5 : t'.trace = t.trace) :
    State.memKept s' t' p := by
  unfold State.memKept
  rw [h1, h2, h3, h4, h5]
  exact h

/-- A byte written by the CPU: no other byte changes, and the host hears of no other (R63). -/
theorem State.memKept_store (s : State) (a : Nat) (v : Byte) (p : Nat → Prop) (h : p a) :
    State.memKept s (s.store a v) p := by
  refine ⟨fun b hb => ?_, ?_⟩
  · rw [State.store, Memory.read_store, if_neg]
    rintro ⟨rfl, hk⟩
    exact hb ⟨h, hk⟩
  · by_cases hk : s.params.kindAt a = .device
    · exact ⟨[.memWrite8 a v], by simp [State.store, Params.heard, hk], by simpa [HostCall.writtenTo, hk] using h⟩
    · exact ⟨[], by simp [State.store, Params.heard, hk], by simp⟩

theorem State.regsKept_trans {s t u : State} {l : List Reg16} (h : State.regsKept s t l) (h' : State.regsKept t u l) :
    State.regsKept s u l := fun r hr => (h' r hr).trans (h r hr)

theorem State.segsKept_trans {s t u : State} {l : List SReg} (h : State.segsKept s t l) (h' : State.segsKept t u l) :
    State.segsKept s u l := fun r hr => (h' r hr).trans (h r hr)

theorem State.memKept_trans {s t u : State} {p : Nat → Prop} (h : State.memKept s t p) (h' : State.memKept t u p)
    (hp : t.params = s.params) : State.memKept s u p := by
  obtain ⟨h1, l, h2, h3⟩ := h
  obtain ⟨k1, m, k2, k3⟩ := h'
  rw [hp] at k1 k3
  refine ⟨fun a ha => (k1 a ha).trans (h1 a ha), m ++ l, by rw [k2, h2]; simp, fun c hc => ?_⟩
  rcases List.mem_append.1 hc with hc | hc
  · exact k3 c hc
  · exact h3 c hc

/-- A word written by the CPU: no other byte changes, and the host hears of no other (R47, R63). -/
theorem State.memKept_write16 (s : State) (base off v : Word) :
    State.memKept s (s.write16 base off v) (wordBytes base off) := by
  refine ⟨fun a ha => ?_, s.params.heardWord (phys base off) (phys base (off + 1)) v, rfl, fun c hc => ?_⟩
  · rw [State.write16, Memory.read_store, Memory.read_store, if_neg, if_neg]
    · rintro ⟨rfl, hk⟩
      exact ha ⟨.inl rfl, hk⟩
    · rintro ⟨rfl, hk⟩
      exact ha ⟨.inr rfl, hk⟩
  · rcases Params.mem_heardWord hc with ⟨hw, h1, h2, rfl⟩ | ⟨h1, rfl⟩ | ⟨h1, rfl⟩
    · refine ⟨by simp [HostCall.writtenTo], fun a ha => ?_⟩
      rcases List.mem_pair.1 ha with rfl | rfl
      · exact ⟨.inl rfl, h1⟩
      · exact phys_succ hw ▸ ⟨.inr rfl, h2⟩
    · exact ⟨by simp [HostCall.writtenTo], fun a ha => List.mem_singleton.1 ha ▸ ⟨.inl rfl, h1⟩⟩
    · exact ⟨by simp [HostCall.writtenTo], fun a ha => List.mem_singleton.1 ha ▸ ⟨.inr rfl, h1⟩⟩

/-- A word reads as what was last written to it, where it lands in RAM (R47, R63). -/
theorem State.read16_write16_lands {s : State} {base off : Word} (h : s.lands (wordBytes base off)) (v : Word) :
    (s.write16 base off v).read16 base off = v :=
  State.read16_write16 s base off v (h _ (.inl rfl)) (h _ (.inr rfl))

@[simp] theorem State.othersKept_refl (s : State) : State.othersKept s s := by
  simp [State.othersKept, State.systemKept]

@[simp] theorem State.restKept_refl (s : State) : State.restKept s s := by simp [State.restKept]

@[simp] theorem State.systemKept_refl (s : State) : State.systemKept s s := by simp [State.systemKept]

@[simp] theorem State.goesOn_refl (s : State) : State.goesOn s s := ⟨rfl, rfl, rfl, rfl⟩

theorem State.goesOn_trans {s t u : State} (h : State.goesOn s t) (h' : State.goesOn t u) : State.goesOn s u :=
  ⟨h'.1.trans h.1, h'.2.1.trans h.2.1, h'.2.2.1.trans h.2.2.1, h'.2.2.2.trans h.2.2.2⟩

/-! ## The bus -/

/-- With LOCK in force, or no other master with anything to write, nothing happens between two bus cycles (R59, R62). -/
theorem State.busGap_of_undisturbed {s : State} (h : s.undisturbed) : s.busGap = s := by
  unfold State.busGap
  rcases h with h | h
  · simp [h]
  · simp [h]

theorem State.undisturbed_of_eq {s t : State} (h : s.undisturbed) (hl : t.lock = s.lock) (hm : t.masters = s.masters) :
    t.undisturbed := by
  rcases h with h | h
  · exact .inl (hl.trans h)
  · exact .inr (hm.trans h)

theorem State.undisturbed_of_quiet {s : State} (h : s.quiet) : s.undisturbed := .inr h.2

theorem State.gapEb_of_undisturbed {s : State} (h : s.undisturbed) (e : Eb) : s.gapEb e = s := by
  cases e
  · rfl
  · exact State.busGap_of_undisturbed h

theorem State.gapEv_of_undisturbed {s : State} (h : s.undisturbed) (e : Ev) : s.gapEv e = s := by
  cases e
  · rfl
  · exact State.busGap_of_undisturbed h

/-- A lock that is already as asked stays, and the host sees nothing (R262). -/
theorem State.setLock_of_eq {s : State} {on : Bool} (h : s.lock = on) : s.setLock on = s := by
  subst h
  simp [State.setLock, State.lockCalls]

/-- A bus that was not released does not come back (R62). -/
theorem State.regain_of_none {s : State} (h : s.busReleased = none) (hu : s.beforeFetch = []) : s.regain = s := by
  obtain ⟨⟩ := s
  simp_all [State.regain]

/-- A master that takes its request back has not got the bus (R62). -/
theorem State.giveBack_ne (s : State) (m : BusMaster) : (s.giveBack m).busReleased ≠ some m := by
  by_cases h : s.busReleased = some m <;> simp [State.giveBack, h]

/-- Nor does it come before the first fetch after RESET (R312). -/
theorem State.mem_giveBack_beforeFetch {s : State} {m k : BusMaster} :
    k ∈ (s.giveBack m).beforeFetch ↔ k ∈ s.beforeFetch ∧ k ≠ m := by
  simp [State.giveBack]

/-- A master that asks is served while nobody else has the bus, or keeps it (R62). -/
theorem State.busRequest_eq_none {s : State} : s.busRequest = none ↔ s.busRequests = [] := by
  unfold State.busRequest State.busRequests
  cases s.params.busMode <;> cases s.pins.hold <;> cases s.pins.rq0 <;> cases s.pins.rq1 <;> simp <;> split <;> simp

/-- All that the level of HOLD changes (R62). -/
theorem State.holdLevel_eq (s : State) (request : Bool) : s.holdLevel request =
    { (if request then s else s.giveBack .hold) with pins := { s.pins with hold := request } } := by
  cases request <;> simp [State.holdLevel]

/-- All that a pulse on a request line changes (R62, R312). -/
theorem State.rqPulse_eq (s : State) (line : GrantLine) (request : Bool) : s.rqPulse line request =
    { (if request then s else s.giveBack (.line line)) with
      pins := { s.pins with
        rq0 := if line = .gt0 then request && !s.pins.reset else s.pins.rq0
        rq1 := if line = .gt1 then request && !s.pins.reset else s.pins.rq1 } } := by
  cases request <;> cases line <;> simp [State.rqPulse]

/-- While another master has the bus nothing happens but that a WAIT examines TEST* (R62; spec/45_processor_control.md
R259). -/
theorem State.idleHeld_of_not_waiting {s : State}
    (h : ∀ next, s.run = .waiting next → s.pins.testLow = false ∨ s.unsampled ≠ none) : s.idleHeld = s := by
  unfold State.idleHeld
  split
  · rename_i next h1 h2
    rcases h next h1 with h | h
    · simp [h]
    · exact absurd h2 h
  · rfl

theorem State.idleHeld_of_waiting {s : State} {next : Word} (hr : s.run = .waiting next) (hu : s.unsampled = none)
    (ht : s.pins.testLow = true) : s.idleHeld = s.endWait next := by
  simp [State.idleHeld, hr, hu, ht]

/-- With the bus free nobody gets it (R59, R62). -/
theorem State.heldBy_of_busFree {s : State} (h : s.busFree) : s.heldBy = none := by
  unfold State.heldBy
  rcases h.2 with h | h <;> simp [h]

/-! ## Operands -/

/-- `write_rm(16)` (R84): the operand reads as written, unless that is memory that is not RAM; nothing else changes. -/
theorem State.writeEv_spec (s : State) (e : Ev) (v : Word) :
    (s.lands (s.storesWord e) → (s.writeEv e v).readEv e = v) ∧ (s.writeEv e v).flags = s.flags ∧ State.regsKept s (s.writeEv e v) (evRegs e) ∧
      State.segsKept s (s.writeEv e v) [] ∧ State.memKept s (s.writeEv e v) (s.storesWord e) ∧
      State.othersKept s (s.writeEv e v) ∧ State.goesOn s (s.writeEv e v) := by
  cases e with
  | reg r =>
    refine ⟨fun _ => by simp [State.writeEv, State.readEv], by simp [State.writeEv], ?_, ?_, ?_, ?_,
      by simp [State.goesOn, State.writeEv]⟩
    · intro q hq
      simp only [evRegs, List.mem_singleton] at hq
      simp [State.writeEv, State.reg16_setReg16, hq]
    · intro q _
      simp [State.writeEv]
    · exact State.memKept_of_eq _ (by simp [State.writeEv]) (by simp [State.writeEv])
    · simp [State.othersKept, State.systemKept, State.writeEv]
  | mem m =>
    refine ⟨?_, rfl, ?_, ?_, ?_, ?_, rfl, rfl, rfl, rfl⟩
    · exact fun h => State.read16_write16_lands h v
    · intro q _
      cases q <;> rfl
    · intro q _
      cases q <;> rfl
    · exact State.memKept_write16 s _ _ v
    · exact ⟨⟨rfl, rfl, rfl, rfl, rfl, rfl, rfl, rfl, rfl, rfl⟩, rfl, rfl, rfl⟩

/-- `write_rm(8)` (R84): the operand reads as written, unless that is memory that is not RAM; nothing else changes. -/
theorem State.writeEb_spec (s : State) (e : Eb) (v : Byte) :
    (s.lands (s.storesByte e) → (s.writeEb e v).readEb e = v) ∧ (s.writeEb e v).flags = s.flags ∧ State.halvesKept s (s.writeEb e v) (ebRegs e) ∧
      State.segsKept s (s.writeEb e v) [] ∧ State.memKept s (s.writeEb e v) (s.storesByte e) ∧
      State.othersKept s (s.writeEb e v) ∧ State.goesOn s (s.writeEb e v) := by
  cases e with
  | reg r =>
    refine ⟨?_, by simp [State.writeEb], ⟨?_, ?_⟩, ?_, ?_, ?_, by simp [State.goesOn, State.writeEb]⟩
    · intro _
      cases r <;> simp [State.writeEb, State.readEb, State.setReg8, State.reg8]
    · intro q hq
      simp only [ebRegs, List.mem_singleton] at hq
      cases r <;> cases q <;> first | exact absurd rfl hq | simp [State.writeEb, State.setReg8, State.reg8]
    · simp [State.writeEb]
    · intro q _
      simp [State.writeEb]
    · exact State.memKept_of_eq _ (by simp [State.writeEb]) (by simp [State.writeEb])
    · simp [State.othersKept, State.systemKept, State.writeEb]
  | mem m =>
    refine ⟨?_, rfl, ⟨?_, rfl, rfl, rfl, rfl⟩, ?_, ?_, ?_, rfl, rfl, rfl, rfl⟩
    · exact fun h => (State.read8_write8 s _ _ _ v).trans (if_pos ⟨rfl, h _ rfl⟩)
    · intro q _
      cases q <;> rfl
    · intro q _
      cases q <;> rfl
    · exact State.memKept_store s _ v _ rfl
    · exact ⟨⟨rfl, rfl, rfl, rfl, rfl, rfl, rfl, rfl, rfl, rfl⟩, rfl, rfl, rfl⟩

@[simp] theorem State.reg8_setFlags (s : State) (f : Flags) (r : Reg8) : (s.setFlags f).reg8 r = s.reg8 r := by
  cases r <;> rfl

@[simp] theorem State.reg8_drew (s : State) (r : Reg8) : s.drew.reg8 r = s.reg8 r := by
  cases r <;> rfl

@[simp] theorem State.reg16_drew (s : State) (r : Reg16) : s.drew.reg16 r = s.reg16 r := by
  cases r <;> rfl

@[simp] theorem State.readEb_drew (s : State) (e : Eb) : s.drew.readEb e = s.readEb e := by
  cases e
  · exact State.reg8_drew s _
  · rename_i m; cases m with
    | direct o => rfl
    | indexed b d => cases b <;> rfl

@[simp] theorem State.readEv_drew (s : State) (e : Ev) : s.drew.readEv e = s.readEv e := by
  cases e
  · exact State.reg16_drew s _
  · rename_i m; cases m with
    | direct o => rfl
    | indexed b d => cases b <;> rfl

@[simp] theorem State.storesWord_setFlags (s : State) (f : Flags) (e : Ev) :
    (s.setFlags f).storesWord e = s.storesWord e := by
  cases e with
  | reg r => rfl
  | mem m => cases m with
    | direct o => rfl
    | indexed b d => cases b <;> rfl

@[simp] theorem State.storesByte_setFlags (s : State) (f : Flags) (e : Eb) :
    (s.setFlags f).storesByte e = s.storesByte e := by
  cases e with
  | reg r => rfl
  | mem m => cases m with
    | direct o => rfl
    | indexed b d => cases b <;> rfl

@[simp] theorem State.storesWord_drew (s : State) (e : Ev) : s.drew.storesWord e = s.storesWord e := by
  cases e with
  | reg r => rfl
  | mem m => cases m with
    | direct o => rfl
    | indexed b d => cases b <;> rfl

@[simp] theorem State.storesByte_drew (s : State) (e : Eb) : s.drew.storesByte e = s.storesByte e := by
  cases e with
  | reg r => rfl
  | mem m => cases m with
    | direct o => rfl
    | indexed b d => cases b <;> rfl

/-- An update of the flags before a 16-bit operand is written changes none of what `writeEv_spec` says. -/
theorem State.rmwEv_spec {s : State} (h : s.undisturbed) (e : Ev) (op : Word → Flags → Word × Flags) :
    (s.lands (s.storesWord e) → (s.rmwEv e op).readEv e = (op (s.readEv e) s.flags).1) ∧
      (s.rmwEv e op).flags = (op (s.readEv e) s.flags).2 ∧ State.regsKept s (s.rmwEv e op) (evRegs e) ∧
      State.segsKept s (s.rmwEv e op) [] ∧ State.memKept s (s.rmwEv e op) (s.storesWord e) ∧
      State.othersKept s (s.rmwEv e op) ∧ State.goesOn s (s.rmwEv e op) := by
  unfold State.rmwEv
  rw [State.gapEv_of_undisturbed h]
  obtain ⟨h1, h2, h3, h4, h5, h6, h7⟩ :=
    State.writeEv_spec (s.setFlags (op (s.readEv e) s.flags).2) e (op (s.readEv e) s.flags).1
  rw [State.storesWord_setFlags] at h1 h5
  exact ⟨h1, h2, fun q hq => (h3 q hq).trans (by cases q <;> rfl), fun q hq => (h4 q hq).trans (by cases q <;> rfl), h5,
    h6, h7⟩

/-- As `rmwEv_spec`, for an 8-bit operand. -/
theorem State.rmwEb_spec {s : State} (h : s.undisturbed) (e : Eb) (op : Byte → Flags → Byte × Flags) :
    (s.lands (s.storesByte e) → (s.rmwEb e op).readEb e = (op (s.readEb e) s.flags).1) ∧
      (s.rmwEb e op).flags = (op (s.readEb e) s.flags).2 ∧ State.halvesKept s (s.rmwEb e op) (ebRegs e) ∧
      State.segsKept s (s.rmwEb e op) [] ∧ State.memKept s (s.rmwEb e op) (s.storesByte e) ∧
      State.othersKept s (s.rmwEb e op) ∧ State.goesOn s (s.rmwEb e op) := by
  unfold State.rmwEb
  rw [State.gapEb_of_undisturbed h]
  obtain ⟨h1, h2, h3, h4, h5, h6, h7⟩ :=
    State.writeEb_spec (s.setFlags (op (s.readEb e) s.flags).2) e (op (s.readEb e) s.flags).1
  rw [State.storesByte_setFlags] at h1 h5
  exact ⟨h1, h2, ⟨fun q hq => (h3.1 q hq).trans (by cases q <;> rfl), h3.2⟩,
    fun q hq => (h4 q hq).trans (by cases q <;> rfl), h5, h6, h7⟩

/-- An instruction that is a read-modify-write of its 16-bit destination gives the result and the flags of the
operation. -/
theorem State.givesWord_of_aluEv {s : State} (h : s.undisturbed) {i : Instr} {e : Ev} {b : Word}
    {op : Word → Word → Flags → Word × Flags} {v : Word} {P : Flags → Prop} (hx : exec i s = .next (s.aluEv op e b))
    (hv : (op (s.readEv e) b s.flags).1 = v) (hP : P (op (s.readEv e) b s.flags).2) : s.givesWord i e v P := by
  obtain ⟨h1, h2, h3⟩ := State.rmwEv_spec h e fun a f => op a b f
  exact ⟨_, hx, fun hl => (h1 hl).trans hv, h2 ▸ hP, h3⟩

/-- As `givesWord_of_aluEv`, for an 8-bit destination. -/
theorem State.givesByte_of_aluEb {s : State} (h : s.undisturbed) {i : Instr} {e : Eb} {b : Byte}
    {op : Byte → Byte → Flags → Byte × Flags} {v : Byte} {P : Flags → Prop} (hx : exec i s = .next (s.aluEb op e b))
    (hv : (op (s.readEb e) b s.flags).1 = v) (hP : P (op (s.readEb e) b s.flags).2) : s.givesByte i e v P := by
  obtain ⟨h1, h2, h3⟩ := State.rmwEb_spec h e fun a f => op a b f
  exact ⟨_, hx, fun hl => (h1 hl).trans hv, h2 ▸ hP, h3⟩

/-- What a free value drawn before the operation adds: nothing that `givesWord` speaks of. -/
theorem State.givesWord_of_drew {s : State} {i : Instr} {e : Ev} {v : Word} {P : Flags → Prop} {t : State}
    (hx : exec i s = .next t) (h : (s.drew.lands (s.drew.storesWord e) → t.readEv e = v) ∧ P t.flags ∧
      State.regsKept s.drew t (evRegs e) ∧ State.segsKept s.drew t [] ∧
      State.memKept s.drew t (s.drew.storesWord e) ∧ State.othersKept s.drew t ∧ State.goesOn s.drew t) :
    s.givesWord i e v P := by
  rw [State.storesWord_drew] at h
  obtain ⟨h1, h2, h3, h4, h5, h6, h7⟩ := h
  exact ⟨t, hx, h1, h2, fun q hq => (h3 q hq).trans (by simp), fun q hq => (h4 q hq).trans (by cases q <;> rfl), h5, h6,
    h7⟩

/-- As `givesWord_of_drew`, for an 8-bit destination. -/
theorem State.givesByte_of_drew {s : State} {i : Instr} {e : Eb} {v : Byte} {P : Flags → Prop} {t : State}
    (hx : exec i s = .next t) (h : (s.drew.lands (s.drew.storesByte e) → t.readEb e = v) ∧ P t.flags ∧
      State.halvesKept s.drew t (ebRegs e) ∧ State.segsKept s.drew t [] ∧
      State.memKept s.drew t (s.drew.storesByte e) ∧ State.othersKept s.drew t ∧ State.goesOn s.drew t) :
    s.givesByte i e v P := by
  rw [State.storesByte_drew] at h
  obtain ⟨h1, h2, h3, h4, h5, h6, h7⟩ := h
  exact ⟨t, hx, h1, h2, ⟨fun q hq => (h3.1 q hq).trans (by simp), h3.2⟩,
    fun q hq => (h4 q hq).trans (by cases q <;> rfl), h5, h6, h7⟩

/-- An instruction that writes only the flags gives them. -/
theorem State.givesFlags_of_setFlags {s : State} {i : Instr} {f : Flags} {P : Flags → Prop}
    (hx : exec i s = .next (s.setFlags f)) (hP : P f) : s.givesFlags i P :=
  ⟨_, hx, hP, fun r _ => by cases r <;> rfl, fun r _ => by cases r <;> rfl, State.memKept_of_eq _ rfl rfl,
    ⟨⟨⟨rfl, rfl, rfl, rfl, rfl, rfl, rfl, rfl, rfl, rfl⟩, rfl, rfl, rfl⟩, rfl⟩, rfl, rfl, rfl, rfl⟩

/-- As `givesFlags_of_setFlags`, with a free value drawn. -/
theorem State.givesFlags_of_drew {s : State} {i : Instr} {f : Flags} {P : Flags → Prop}
    (hx : exec i s = .next (s.drew.setFlags f)) (hP : P f) : s.givesFlags i P :=
  ⟨_, hx, hP, fun r _ => by cases r <;> rfl, fun r _ => by cases r <;> rfl, State.memKept_of_eq _ rfl rfl,
    ⟨⟨⟨rfl, rfl, rfl, rfl, rfl, rfl, rfl, rfl, rfl, rfl⟩, rfl, rfl, rfl⟩, rfl⟩, rfl, rfl, rfl, rfl⟩

/-! ## The stack -/

/-- Two words of one segment at different even distances do not meet: a word write leaves a byte alone that is neither
of its two. -/
theorem State.read16_write16_other (s : State) (base off off' v : Word) (h0 : off' ≠ off) (h1 : off' ≠ off + 1)
    (h2 : off' + 1 ≠ off) : (s.write16 base off v).read16 base off' = s.read16 base off' := by
  have h3 : off' + 1 ≠ off + 1 := fun h => h0 (by simpa using h)
  rw [State.read16, State.read16, State.read8_write16_other s base off off' v h0 h1,
    State.read8_write16_other s base off (off' + 1) v h2 h3]

/-- `push16` (R52): SP is lowered by 2, the word stands there if that is RAM, every other byte and everything else is
unchanged. -/
theorem State.push16_spec (s : State) (v : Word) :
    (s.push16 v).sp = s.sp - 2 ∧
      (s.lands (wordBytes s.ss (s.sp - 2)) → (s.push16 v).read16 s.ss (s.sp - 2) = v) ∧
      (s.push16 v).flags = s.flags ∧ State.regsKept s (s.push16 v) [.sp] ∧ State.segsKept s (s.push16 v) [] ∧
      State.memKept s (s.push16 v) (wordBytes s.ss (s.sp - 2)) ∧ State.othersKept s (s.push16 v) ∧
      State.goesOn s (s.push16 v) := by
  refine ⟨rfl, fun h => State.read16_write16_lands (s := { s with sp := s.sp - 2 }) h v, rfl, ?_, ?_,
    State.memKept_write16 { s with sp := s.sp - 2 } _ _ v,
    ⟨⟨rfl, rfl, rfl, rfl, rfl, rfl, rfl, rfl, rfl, rfl⟩, rfl, rfl, rfl⟩, rfl, rfl, rfl, rfl⟩
  · intro r hr
    cases r <;> first | rfl | simp at hr
  · intro r _
    cases r <;> rfl

/-- A pushed word reads the same after the next push. -/
theorem State.read16_push16_above (s : State) (v : Word) (k : Word) (h0 : k ≠ 0) (h1 : k ≠ 1) (h2 : k + 1 ≠ 0) :
    (s.push16 v).read16 s.ss (s.sp - 2 + k) = s.read16 s.ss (s.sp - 2 + k) := by
  refine State.read16_write16_other { s with sp := s.sp - 2 } s.ss (s.sp - 2) _ v ?_ ?_ ?_
  · intro h; exact h0 (by simpa using h)
  · intro h; exact h1 (by simpa using h)
  · intro h
    apply h2
    rw [BitVec.add_assoc] at h
    simpa using h

/-- The interrupt sequence (spec/60_exceptions.md R280), with no other master on the bus. -/
theorem State.takeInterrupt_spec {s : State} (h : s.undisturbed) (n : Byte) (ret : Word) :
    State.entered s (s.takeInterrupt n ret) n ret s.flags ∧ State.systemKept s (s.takeInterrupt n ret) ∧
      (s.takeInterrupt n ret).inhibitInt = s.inhibitInt ∧ (s.takeInterrupt n ret).ioIn = s.ioIn ∧
      (s.takeInterrupt n ret).cur = { s.cur with jumped := true } := by
  have g1 : s.busGap = s := State.busGap_of_undisturbed h
  have g2 : (s.push16 s.flags.toWord).maskInterrupts.busGap = (s.push16 s.flags.toWord).maskInterrupts :=
    State.busGap_of_undisturbed (State.undisturbed_of_eq h rfl rfl)
  have g3 : (((s.push16 s.flags.toWord).maskInterrupts).push16 s.cs).busGap =
      ((s.push16 s.flags.toWord).maskInterrupts).push16 s.cs :=
    State.busGap_of_undisturbed (State.undisturbed_of_eq h rfl rfl)
  have e : s.takeInterrupt n ret =
      { (((s.push16 s.flags.toWord).maskInterrupts.push16 s.cs).push16 ret).jumpFar
        (s.readPhys16 (4 * n.toNat + 2)) (s.readPhys16 (4 * n.toNat)) with run := .running } := by
    unfold State.takeInterrupt
    simp only [g1, g2, State.maskInterrupts_cs, State.push16_cs, g3]
  have w1 := (State.push16_spec s s.flags.toWord).2.1
  have w2 := (State.push16_spec (s.push16 s.flags.toWord).maskInterrupts s.cs).2.1
  have k1 := State.read16_push16_above (s.push16 s.flags.toWord).maskInterrupts s.cs 2 (by decide) (by decide) (by decide)
  have w3 := (State.push16_spec ((s.push16 s.flags.toWord).maskInterrupts.push16 s.cs) ret).2.1
  have k2 := State.read16_push16_above ((s.push16 s.flags.toWord).maskInterrupts.push16 s.cs) ret 2 (by decide) (by decide)
    (by decide)
  have k3 := State.read16_push16_above ((s.push16 s.flags.toWord).maskInterrupts.push16 s.cs) ret 4 (by decide) (by decide)
    (by decide)
  have a1 : s.sp - 2 - 2 + 2 = s.sp - 2 := by bv_omega
  have a2 : s.sp - 2 - 2 - 2 + 4 = s.sp - 2 := by bv_omega
  have a3 : s.sp - 2 - 2 - 2 + 2 = s.sp - 4 := by bv_omega
  have a4 : s.sp - 2 - 2 = s.sp - 4 := by bv_omega
  have a5 : s.sp - 2 - 2 - 2 = s.sp - 6 := by bv_omega
  simp only [State.push16_sp, State.maskInterrupts_sp, State.maskInterrupts_ss, State.push16_ss, a1] at k1 w2 k2 k3 w3
  rw [a2] at k3
  rw [a3] at k2
  rw [a4] at w2
  rw [a5] at w3
  have m1 := (State.push16_spec s s.flags.toWord).2.2.2.2.2.1
  have m2 := (State.push16_spec (s.push16 s.flags.toWord).maskInterrupts s.cs).2.2.2.2.2.1
  have m3 := (State.push16_spec ((s.push16 s.flags.toWord).maskInterrupts.push16 s.cs) ret).2.2.2.2.2.1
  simp only [State.push16_sp, State.maskInterrupts_sp, State.maskInterrupts_ss, State.push16_ss, a4] at m2 m3
  have a6 : s.sp - 4 - 2 = s.sp - 6 := by bv_omega
  rw [a6] at m3
  have f1 := fun hl => k3.trans (k1.trans (w1 hl))
  have f2 := fun hl => k2.trans (w2 hl)
  rw [e]
  clear e k1 k2 k3 w1 w2 g1 g2 g3
  generalize hp : ((s.push16 s.flags.toWord).maskInterrupts.push16 s.cs).push16 ret = p at *
  have hr : ∀ r, r ≠ .sp → p.reg16 r = s.reg16 r := by
    intro r hr
    rw [← hp]
    cases r <;> first | exact absurd rfl hr | simp [State.reg16]
  have hs : ∀ r, p.sreg r = s.sreg r := by
    intro r
    rw [← hp]
    cases r <;> simp [State.sreg]
  have hm : State.memKept s p (fun a => wordBytes s.ss (s.sp - 2) a ∨ wordBytes s.ss (s.sp - 4) a ∨
      wordBytes s.ss (s.sp - 6) a) := by
    exact State.memKept_trans (State.memKept_trans (State.memKept_mono m1 fun _ h => .inl h)
      (State.memKept_mono (State.memKept_congr m2 rfl rfl rfl rfl rfl) fun _ h => .inr (.inl h)) rfl)
      (State.memKept_mono m3 fun _ h => .inr (.inr h)) rfl
  refine ⟨⟨rfl, rfl, ?_, ?_, f2, w3, ?_, rfl, rfl, rfl, ?_, ?_, State.memKept_congr hm rfl rfl rfl rfl rfl⟩, ?_, ?_, ?_, ?_⟩
  · rw [State.jumpFar_sp, ← hp]
    simp only [State.push16_sp, State.maskInterrupts_sp]
    exact a5
  · intro hl
    change isFlagsImage (p.read16 s.ss (s.sp - 2)) _
    rw [f1 hl]
    exact toWord_isFlagsImage _
  · rw [State.jumpFar_flags, ← hp]
    simp
  · intro r hr'
    refine Eq.trans ?_ (hr r (by simpa using hr'))
    cases r <;> rfl
  · intro r hr'
    refine Eq.trans ?_ (hs r)
    cases r <;> first | rfl | simp at hr'
  all_goals simp only [State.systemKept, State.jumpFar, State.jumpNear, ← hp]
  all_goals simp

/-- The return from an interrupt (spec/44_control_transfer.md R243), with no other master on the bus. -/
theorem State.returnFromInterrupt_eq {s : State} (h : s.undisturbed) :
    s.returnFromInterrupt = { s with
      ip := s.read16 s.ss s.sp
      cs := s.read16 s.ss (s.sp + 2)
      flags := .ofWord (s.read16 s.ss (s.sp + 4))
      sp := s.sp + 6
      queue := []
      prefetched := 0
      cur := { s.cur with jumped := true } } := by
  have g1 : s.drop16.busGap = s.drop16 := State.busGap_of_undisturbed (State.undisturbed_of_eq h rfl rfl)
  have g2 : s.drop16.drop16.busGap = s.drop16.drop16 := State.busGap_of_undisturbed (State.undisturbed_of_eq h rfl rfl)
  have a1 : s.sp + 2 + 2 = s.sp + 4 := by bv_omega
  have a2 : s.sp + 2 + 2 + 2 = s.sp + 6 := by bv_omega
  unfold State.returnFromInterrupt
  simp only [g1, g2]
  simp only [State.jumpFar, State.jumpNear, State.drop16, State.top16, State.read16, State.read8]
  rw [a2, a1]

/-! ## Fetching -/

theorem State.wantsRead_spec (s : State) (n : Nat) :
    s.prefetched ≤ s.wantsRead n ∧ n ≤ s.wantsRead n ∧ (s.prefetched ≤ s.queueSize → s.wantsRead n ≤ n + s.queueSize) := by
  simp only [State.wantsRead]
  omega

/-- What is read to execute `n` bytes: these at least, and at most the queue's size beyond (R57). -/
theorem State.readTo_spec (s : State) (n : Nat) :
    n ≤ s.readTo n ∧ (s.prefetched ≤ s.queueSize → s.readTo n ≤ n + s.queueSize) := by
  obtain ⟨-, h2, h3⟩ := s.wantsRead_spec n
  have hq : 4 ≤ s.queueSize := by unfold State.queueSize; split <;> decide
  unfold State.readTo
  split <;> (try split) <;> omega

/-- Reading instruction bytes changes what has been read, draws a free value, and tells the host of fetches alone (R57,
spec/70_reset_and_hazards.md R322); where no device is in reach it changes nothing. -/
theorem State.prefetch_spec (s : State) (n : Nat) : ∃ k d heard,
    s.prefetch n = { s with prefetched := k, drawn := d, trace := heard ++ s.trace } ∧
    (s.prefetched ≤ s.queueSize → k ≤ n + s.queueSize) ∧
    (s.deviceAhead n = false → s.prefetch n = s ∧ k = s.prefetched ∧ heard = []) ∧
    (s.deviceAhead n = true → k = s.readTo n ∧
      heard = (s.params.fetchCycles s.cs (s.ip + BitVec.ofNat 16 s.prefetched) (s.readTo n - s.prefetched)).reverse) := by
  have h := (s.readTo_spec n).2
  unfold State.prefetch
  cases hd : s.deviceAhead n
  · exact ⟨s.prefetched, s.drawn, [], rfl, fun h => by omega, fun _ => ⟨rfl, rfl, rfl⟩, nofun⟩
  · exact ⟨_, _, _, rfl, h, nofun, fun _ => ⟨rfl, rfl⟩⟩

/-- Moving over instruction bytes reads them, then changes IP, the queue and the count of what has been read (R28). -/
theorem State.advance_spec (s : State) (n : Nat) : ∃ k d heard, s.advance n = { s with
      ip := s.ip + BitVec.ofNat 16 n
      queue := s.queue.drop n
      prefetched := k - n
      drawn := d
      trace := heard ++ s.trace } ∧
    s.prefetch n = { s with prefetched := k, drawn := d, trace := heard ++ s.trace } ∧
    (s.prefetched ≤ s.queueSize → k - n ≤ s.queueSize) := by
  obtain ⟨k, d, heard, e, h, -, -⟩ := s.prefetch_spec n
  exact ⟨k, d, heard, by rw [State.advance, e], e, fun hq => by have := h hq; omega⟩

/-- Only a CPU that waits reads a WAIT again (R292). -/
theorem State.refetchWait_of_not_waiting {s : State} (h : ∀ next, s.run ≠ .waiting next) : s.refetchWait = s := by
  unfold State.refetchWait
  split
  · exact absurd (by assumption) (h _)
  · rfl

/-- A WAIT is read again only for an interrupt (R292). -/
theorem State.refetchWait_of_not_due {s : State} (h : s.externalDue = false) : s.refetchWait = s := by
  unfold State.refetchWait
  split <;> simp [h]

/-- A WAIT that waits is read again from its first byte to its end (R292). -/
theorem State.refetchWait_of_waiting {s : State} {next : Word} (hr : s.run = .waiting next) (h : s.externalDue = true) :
    s.refetchWait = { s with prefetched := 0 }.prefetch (next - s.ip).toNat := by
  simp [State.refetchWait, hr, h]

/-- Whether or not a WAIT is read again, only the count, the draws and the host's trace change. -/
theorem State.refetchWait_spec (s : State) : ∃ k d heard,
    s.refetchWait = { s with prefetched := k, drawn := d, trace := heard ++ s.trace } := by
  unfold State.refetchWait
  split
  · split
    · obtain ⟨k, d, heard, e, -⟩ := State.prefetch_spec { s with prefetched := 0 } _
      exact ⟨k, d, heard, e⟩
    · exact ⟨_, _, [], rfl⟩
  · exact ⟨_, _, [], rfl⟩

/-! ## The platform -/

/-- A quiet platform does nothing when it is looked at. -/
theorem State.look_of_quiet {s : State} (h : s.quiet) : s.look = s := by
  have e : s.nextEvents = s := by
    unfold State.nextEvents
    rw [h.1]
  rw [State.look, e, State.busGap_of_undisturbed (.inr h.2)]

@[simp] theorem State.keepPrefetched_self (s : State) : s.keepPrefetched s = s := by simp [State.keepPrefetched]

theorem State.hear_of_quiet {s : State} (h : s.quiet) : s.hear = s := by
  simp [State.hear, h.1, h.2]

/-- A look between instructions is a look, with the queue kept as it was prefetched, unless nothing has been fetched
since RESET because a master comes first (R58, R306, R312). -/
theorem State.hear_eq (s : State) : s.hear = if s.beforeFetch.isEmpty then s.look.keepPrefetched s else s.look := by
  unfold State.hear
  split
  · rename_i h
    have hq : s.quiet := by simpa [State.quiet] using h
    simp [State.look_of_quiet hq]
  · cases s.beforeFetch.isEmpty <;> rfl

/-- No external request and no trap: the sampling procedure does nothing (R287). -/
theorem State.sample_of_unrequested {s : State} (hn : s.nmiPending = false)
    (hi : s.pins.intrLine = false ∨ s.flags.iF = false) (seq : Bool) : s.sample false seq = (s, false) := by
  have : s.takeExternal = (s, false) := by
    unfold State.takeExternal
    rcases hi with hi | hi <;> simp [hn, hi]
  simp [State.sample, this]

/-- An interrupt taken at a sampling point, with no other master on the bus (R280; spec/43_string.md R198). -/
theorem State.takeSampled_spec {s : State} (h : s.masters = []) (n : Byte) :
    State.entered (s.setLock false) (s.takeSampled n) n s.ip s.flags ∧
      State.systemKept (s.setLock false) (s.takeSampled n) ∧ (s.takeSampled n).inhibitInt = s.inhibitInt ∧
      (s.takeSampled n).cur = { s.cur with jumped := true } := by
  obtain ⟨h1, h2, h3, -, h4⟩ := State.takeInterrupt_spec (s := s.setLock false) (.inr h) n s.ip
  exact ⟨h1, h2, h3, h4⟩

/-- What the host sees of the INTA pair and of LOCK* around it (R281). -/
theorem State.acknowledged_eq (s : State) : s.acknowledged = s.afterInta s.pins.intrType := by
  cases hm : s.params.busMode <;> cases hl : s.lock <;>
    simp [State.acknowledged, State.afterInta, State.setLock, State.lockCalls, State.record, hm, hl]

@[simp] theorem State.setLock_acknowledged (s : State) : s.acknowledged.setLock false = s.acknowledged :=
  State.setLock_of_eq rfl

/-- The request that is taken, with no other master on the bus: NMI first (R276, R287). -/
theorem State.takeExternal_nmi {s : State} (hm : s.masters = []) (h : s.nmiPending = true) :
    ∃ t, s.takeExternal = (t, true) ∧ State.entered (s.setLock false) t 2 s.ip s.flags ∧
      State.systemKept { s.setLock false with nmiPending := false } t ∧ t.inhibitInt = s.inhibitInt ∧
      t.cur = { s.cur with jumped := true } := by
  obtain ⟨h1, h2, h3⟩ := State.takeSampled_spec (s := { s with nmiPending := false }) hm 2
  exact ⟨_, by simp [State.takeExternal, h], h1, h2, h3⟩

/-- As `takeExternal_nmi`, for INTR. -/
theorem State.takeExternal_intr {s : State} (hm : s.masters = []) (h : s.nmiPending = false)
    (h1 : s.pins.intrLine = true) (h2 : s.flags.iF = true) :
    ∃ t, s.takeExternal = (t, true) ∧ State.entered (s.afterInta s.pins.intrType) t s.pins.intrType s.ip s.flags ∧
      State.systemKept (s.afterInta s.pins.intrType) t ∧ t.inhibitInt = s.inhibitInt ∧
      t.cur = { s.cur with jumped := true } := by
  obtain ⟨k1, k2, k3⟩ := State.takeSampled_spec (s := s.acknowledged) hm s.pins.intrType
  rw [State.setLock_acknowledged] at k1 k2
  rw [← State.acknowledged_eq]
  exact ⟨_, by simp [State.takeExternal, h, h1, h2], k1, k2, k3⟩

/-- A trap that is due and not dropped follows whatever was taken before it (R287). -/
theorem State.sample_trap {s : State} (hm : s.masters = []) (seq : Bool) (h : (seq && s.takeExternal.2) = false)
    (hk : s.takeExternal.1.masters = s.masters) : ∃ t, s.sample true seq = (t, true) ∧
      State.entered (s.takeExternal.1.setLock false) t 1 s.takeExternal.1.ip s.takeExternal.1.flags ∧
      State.systemKept (s.takeExternal.1.setLock false) t ∧ t.inhibitInt = s.takeExternal.1.inhibitInt ∧
      t.cur = { s.takeExternal.1.cur with jumped := true } := by
  obtain ⟨h1, h2, h3⟩ := State.takeSampled_spec (hk.trans hm) 1
  exact ⟨_, by simp [State.sample, h], h1, h2, h3⟩

/-- The sampling procedure with one request and no trap of its own (R287). -/
theorem State.sample_external {s : State} {tf0 seq : Bool} {t : State} (h : s.takeExternal = (t, true))
    (ht : tf0 = false ∨ seq = true) : s.sample tf0 seq = (t, true) := by
  rcases ht with rfl | rfl <;> simp [State.sample, h]

/-- With nobody asking for the bus, putting the sampling off does not come into it (R279). -/
theorem State.sampleAfterHold_of_unasked {s : State} (h : s.busRequest = none) (tf0 seq : Bool) :
    s.sampleAfterHold tf0 seq = (s.refetchWait.sample tf0 seq).1 := by
  simp [State.sampleAfterHold, h]

/-- An NMI edge is remembered unless RESET is high (spec/10_state.md R31, R312). -/
@[simp] theorem State.pinEvent_nmiEdge (s : State) :
    s.pinEvent .nmiEdge = { s with nmiPending := s.nmiPending || !s.pins.reset } := rfl

/-- Between two repetitions nothing happens when nothing is requested and the bus is free (R196). -/
theorem State.betweenRepetitions_of_quiet {s : State} (hq : s.quiet) (hu : s.unrequested) (hb : s.busFree)
    (hr : s.settled) : s.betweenRepetitions = s := by
  have hh : s.heldBy = none := State.heldBy_of_busFree hb
  have ha : State.awaitBus s.outside.length s = s := by
    rw [hq.1]
    simp only [List.length_nil, State.awaitBus, hh]
    exact State.regain_of_none hr.1 hr.2.2
  have hs (ip : Word) : ({ s with ip := ip } : State).sample s.cur.tf0 false = ({ s with ip := ip }, false) := by
    rw [hu.2.2]
    exact State.sample_of_unrequested (s := { s with ip := ip }) hu.1 hu.2.1 false
  simp only [State.betweenRepetitions, State.look_of_quiet hq, ha, hs s.ip, Bool.and_false, State.sampleRepetition, hb.1,
    hh, hs]
  rfl

end Sys2Proof.Machine
end

