-- ==== Sys2Proof/Laws/PerInstr.lean ====
section
/-! SUPPORT. The per-instruction family of LAWS.json: an encoding is one to six bytes long (spec/30_encoding.md R70). -/
namespace Sys2Proof.Laws

/-- A word operand takes two bytes. -/
theorem encWord_length (w : Word) : (encWord w).length = 2 := rfl

/-- A memory operand takes one to three bytes. -/
theorem encMem_length (m : MemOp) (reg : BitVec 3) : 1 ≤ (encMem m reg).length ∧ (encMem m reg).length ≤ 3 := by
  rcases m with _ | ⟨b, _ | _ | _⟩ <;> simp [encMem, encWord]

/-- An 8-bit r/m operand takes one to three bytes. -/
theorem encEb_length (e : Eb) (reg : BitVec 3) : 1 ≤ (encEb e reg).length ∧ (encEb e reg).length ≤ 3 := by
  cases e with
  | reg r => simp [encEb]
  | mem m => exact encMem_length m reg

/-- A 16-bit r/m operand takes one to three bytes. -/
theorem encEv_length (e : Ev) (reg : BitVec 3) : 1 ≤ (encEv e reg).length ∧ (encEv e reg).length ≤ 3 := by
  cases e with
  | reg r => simp [encEv]
  | mem m => exact encMem_length m reg

/-- A first byte before an operand. -/
theorem one_more {l : List Byte} {b : Byte} (h : 1 ≤ l.length ∧ l.length ≤ 3) :
    1 ≤ (b :: l).length ∧ (b :: l).length ≤ 6 := by simp; omega

/-- A first byte before an operand and an immediate byte. -/
theorem one_more_imm8 {l : List Byte} {b : Byte} (h : 1 ≤ l.length ∧ l.length ≤ 3) (imm : Byte) :
    1 ≤ (b :: (l ++ [imm])).length ∧ (b :: (l ++ [imm])).length ≤ 6 := by simp; omega

/-- A first byte before an operand and an immediate word. -/
theorem one_more_imm16 {l : List Byte} {b : Byte} (h : 1 ≤ l.length ∧ l.length ≤ 3) (imm : Word) :
    1 ≤ (b :: (l ++ encWord imm)).length ∧ (b :: (l ++ encWord imm)).length ≤ 6 := by simp [encWord]; omega

/-- The encoding of an instruction is one to six bytes long (R70). -/
def EncodeLength.Statement (i : Instr) : Prop := 1 ≤ (encode i).length ∧ (encode i).length ≤ 6

theorem EncodeLength.addEbGb (dst : Eb) (src : Reg8) : EncodeLength.Statement (.addEbGb dst src) :=
  one_more (encEb_length dst src.code)
theorem EncodeLength.addEvGv (dst : Ev) (src : Reg16) : EncodeLength.Statement (.addEvGv dst src) :=
  one_more (encEv_length dst src.code)
theorem EncodeLength.addGbEb (dst : Reg8) (src : Eb) : EncodeLength.Statement (.addGbEb dst src) :=
  one_more (encEb_length src dst.code)
theorem EncodeLength.addGvEv (dst : Reg16) (src : Ev) : EncodeLength.Statement (.addGvEv dst src) :=
  one_more (encEv_length src dst.code)
theorem EncodeLength.addAlIb (imm : Byte) : EncodeLength.Statement (.addAlIb imm) := (by decide : 1 ≤ 2 ∧ 2 ≤ 6)
theorem EncodeLength.addAxIv (imm : Word) : EncodeLength.Statement (.addAxIv imm) := (by decide : 1 ≤ 3 ∧ 3 ≤ 6)
theorem EncodeLength.orEbGb (dst : Eb) (src : Reg8) : EncodeLength.Statement (.orEbGb dst src) :=
  one_more (encEb_length dst src.code)
theorem EncodeLength.orEvGv (dst : Ev) (src : Reg16) : EncodeLength.Statement (.orEvGv dst src) :=
  one_more (encEv_length dst src.code)
theorem EncodeLength.orGbEb (dst : Reg8) (src : Eb) : EncodeLength.Statement (.orGbEb dst src) :=
  one_more (encEb_length src dst.code)
theorem EncodeLength.orGvEv (dst : Reg16) (src : Ev) : EncodeLength.Statement (.orGvEv dst src) :=
  one_more (encEv_length src dst.code)
theorem EncodeLength.orAlIb (imm : Byte) : EncodeLength.Statement (.orAlIb imm) := (by decide : 1 ≤ 2 ∧ 2 ≤ 6)
theorem EncodeLength.orAxIv (imm : Word) : EncodeLength.Statement (.orAxIv imm) := (by decide : 1 ≤ 3 ∧ 3 ≤ 6)
theorem EncodeLength.adcEbGb (dst : Eb) (src : Reg8) : EncodeLength.Statement (.adcEbGb dst src) :=
  one_more (encEb_length dst src.code)
theorem EncodeLength.adcEvGv (dst : Ev) (src : Reg16) : EncodeLength.Statement (.adcEvGv dst src) :=
  one_more (encEv_length dst src.code)
theorem EncodeLength.adcGbEb (dst : Reg8) (src : Eb) : EncodeLength.Statement (.adcGbEb dst src) :=
  one_more (encEb_length src dst.code)
theorem EncodeLength.adcGvEv (dst : Reg16) (src : Ev) : EncodeLength.Statement (.adcGvEv dst src) :=
  one_more (encEv_length src dst.code)
theorem EncodeLength.adcAlIb (imm : Byte) : EncodeLength.Statement (.adcAlIb imm) := (by decide : 1 ≤ 2 ∧ 2 ≤ 6)
theorem EncodeLength.adcAxIv (imm : Word) : EncodeLength.Statement (.adcAxIv imm) := (by decide : 1 ≤ 3 ∧ 3 ≤ 6)
theorem EncodeLength.sbbEbGb (dst : Eb) (src : Reg8) : EncodeLength.Statement (.sbbEbGb dst src) :=
  one_more (encEb_length dst src.code)
theorem EncodeLength.sbbEvGv (dst : Ev) (src : Reg16) : EncodeLength.Statement (.sbbEvGv dst src) :=
  one_more (encEv_length dst src.code)
theorem EncodeLength.sbbGbEb (dst : Reg8) (src : Eb) : EncodeLength.Statement (.sbbGbEb dst src) :=
  one_more (encEb_length src dst.code)
theorem EncodeLength.sbbGvEv (dst : Reg16) (src : Ev) : EncodeLength.Statement (.sbbGvEv dst src) :=
  one_more (encEv_length src dst.code)
theorem EncodeLength.sbbAlIb (imm : Byte) : EncodeLength.Statement (.sbbAlIb imm) := (by decide : 1 ≤ 2 ∧ 2 ≤ 6)
theorem EncodeLength.sbbAxIv (imm : Word) : EncodeLength.Statement (.sbbAxIv imm) := (by decide : 1 ≤ 3 ∧ 3 ≤ 6)
theorem EncodeLength.andEbGb (dst : Eb) (src : Reg8) : EncodeLength.Statement (.andEbGb dst src) :=
  one_more (encEb_length dst src.code)
theorem EncodeLength.andEvGv (dst : Ev) (src : Reg16) : EncodeLength.Statement (.andEvGv dst src) :=
  one_more (encEv_length dst src.code)
theorem EncodeLength.andGbEb (dst : Reg8) (src : Eb) : EncodeLength.Statement (.andGbEb dst src) :=
  one_more (encEb_length src dst.code)
theorem EncodeLength.andGvEv (dst : Reg16) (src : Ev) : EncodeLength.Statement (.andGvEv dst src) :=
  one_more (encEv_length src dst.code)
theorem EncodeLength.andAlIb (imm : Byte) : EncodeLength.Statement (.andAlIb imm) := (by decide : 1 ≤ 2 ∧ 2 ≤ 6)
theorem EncodeLength.andAxIv (imm : Word) : EncodeLength.Statement (.andAxIv imm) := (by decide : 1 ≤ 3 ∧ 3 ≤ 6)
theorem EncodeLength.subEbGb (dst : Eb) (src : Reg8) : EncodeLength.Statement (.subEbGb dst src) :=
  one_more (encEb_length dst src.code)
theorem EncodeLength.subEvGv (dst : Ev) (src : Reg16) : EncodeLength.Statement (.subEvGv dst src) :=
  one_more (encEv_length dst src.code)
theorem EncodeLength.subGbEb (dst : Reg8) (src : Eb) : EncodeLength.Statement (.subGbEb dst src) :=
  one_more (encEb_length src dst.code)
theorem EncodeLength.subGvEv (dst : Reg16) (src : Ev) : EncodeLength.Statement (.subGvEv dst src) :=
  one_more (encEv_length src dst.code)
theorem EncodeLength.subAlIb (imm : Byte) : EncodeLength.Statement (.subAlIb imm) := (by decide : 1 ≤ 2 ∧ 2 ≤ 6)
theorem EncodeLength.subAxIv (imm : Word) : EncodeLength.Statement (.subAxIv imm) := (by decide : 1 ≤ 3 ∧ 3 ≤ 6)
theorem EncodeLength.xorEbGb (dst : Eb) (src : Reg8) : EncodeLength.Statement (.xorEbGb dst src) :=
  one_more (encEb_length dst src.code)
theorem EncodeLength.xorEvGv (dst : Ev) (src : Reg16) : EncodeLength.Statement (.xorEvGv dst src) :=
  one_more (encEv_length dst src.code)
theorem EncodeLength.xorGbEb (dst : Reg8) (src : Eb) : EncodeLength.Statement (.xorGbEb dst src) :=
  one_more (encEb_length src dst.code)
theorem EncodeLength.xorGvEv (dst : Reg16) (src : Ev) : EncodeLength.Statement (.xorGvEv dst src) :=
  one_more (encEv_length src dst.code)
theorem EncodeLength.xorAlIb (imm : Byte) : EncodeLength.Statement (.xorAlIb imm) := (by decide : 1 ≤ 2 ∧ 2 ≤ 6)
theorem EncodeLength.xorAxIv (imm : Word) : EncodeLength.Statement (.xorAxIv imm) := (by decide : 1 ≤ 3 ∧ 3 ≤ 6)
theorem EncodeLength.cmpEbGb (dst : Eb) (src : Reg8) : EncodeLength.Statement (.cmpEbGb dst src) :=
  one_more (encEb_length dst src.code)
theorem EncodeLength.cmpEvGv (dst : Ev) (src : Reg16) : EncodeLength.Statement (.cmpEvGv dst src) :=
  one_more (encEv_length dst src.code)
theorem EncodeLength.cmpGbEb (dst : Reg8) (src : Eb) : EncodeLength.Statement (.cmpGbEb dst src) :=
  one_more (encEb_length src dst.code)
theorem EncodeLength.cmpGvEv (dst : Reg16) (src : Ev) : EncodeLength.Statement (.cmpGvEv dst src) :=
  one_more (encEv_length src dst.code)
theorem EncodeLength.cmpAlIb (imm : Byte) : EncodeLength.Statement (.cmpAlIb imm) := (by decide : 1 ≤ 2 ∧ 2 ≤ 6)
theorem EncodeLength.cmpAxIv (imm : Word) : EncodeLength.Statement (.cmpAxIv imm) := (by decide : 1 ≤ 3 ∧ 3 ≤ 6)
theorem EncodeLength.incR16 (r : Reg16) : EncodeLength.Statement (.incR16 r) := (by decide : 1 ≤ 1 ∧ 1 ≤ 6)
theorem EncodeLength.decR16 (r : Reg16) : EncodeLength.Statement (.decR16 r) := (by decide : 1 ≤ 1 ∧ 1 ≤ 6)
theorem EncodeLength.pushR16 (r : Reg16) : EncodeLength.Statement (.pushR16 r) := (by decide : 1 ≤ 1 ∧ 1 ≤ 6)
theorem EncodeLength.popR16 (r : Reg16) : EncodeLength.Statement (.popR16 r) := (by decide : 1 ≤ 1 ∧ 1 ≤ 6)
theorem EncodeLength.notUsed60 (low : BitVec 4) : EncodeLength.Statement (.notUsed60 low) := (by decide : 1 ≤ 1 ∧ 1 ≤ 6)
theorem EncodeLength.jo (inc : Byte) : EncodeLength.Statement (.jo inc) := (by decide : 1 ≤ 2 ∧ 2 ≤ 6)
theorem EncodeLength.jno (inc : Byte) : EncodeLength.Statement (.jno inc) := (by decide : 1 ≤ 2 ∧ 2 ≤ 6)
theorem EncodeLength.jb (inc : Byte) : EncodeLength.Statement (.jb inc) := (by decide : 1 ≤ 2 ∧ 2 ≤ 6)
theorem EncodeLength.jnb (inc : Byte) : EncodeLength.Statement (.jnb inc) := (by decide : 1 ≤ 2 ∧ 2 ≤ 6)
theorem EncodeLength.je (inc : Byte) : EncodeLength.Statement (.je inc) := (by decide : 1 ≤ 2 ∧ 2 ≤ 6)
theorem EncodeLength.jne (inc : Byte) : EncodeLength.Statement (.jne inc) := (by decide : 1 ≤ 2 ∧ 2 ≤ 6)
theorem EncodeLength.jbe (inc : Byte) : EncodeLength.Statement (.jbe inc) := (by decide : 1 ≤ 2 ∧ 2 ≤ 6)
theorem EncodeLength.jnbe (inc : Byte) : EncodeLength.Statement (.jnbe inc) := (by decide : 1 ≤ 2 ∧ 2 ≤ 6)
theorem EncodeLength.js (inc : Byte) : EncodeLength.Statement (.js inc) := (by decide : 1 ≤ 2 ∧ 2 ≤ 6)
theorem EncodeLength.jns (inc : Byte) : EncodeLength.Statement (.jns inc) := (by decide : 1 ≤ 2 ∧ 2 ≤ 6)
theorem EncodeLength.jp (inc : Byte) : EncodeLength.Statement (.jp inc) := (by decide : 1 ≤ 2 ∧ 2 ≤ 6)
theorem EncodeLength.jnp (inc : Byte) : EncodeLength.Statement (.jnp inc) := (by decide : 1 ≤ 2 ∧ 2 ≤ 6)
theorem EncodeLength.jl (inc : Byte) : EncodeLength.Statement (.jl inc) := (by decide : 1 ≤ 2 ∧ 2 ≤ 6)
theorem EncodeLength.jnl (inc : Byte) : EncodeLength.Statement (.jnl inc) := (by decide : 1 ≤ 2 ∧ 2 ≤ 6)
theorem EncodeLength.jle (inc : Byte) : EncodeLength.Statement (.jle inc) := (by decide : 1 ≤ 2 ∧ 2 ≤ 6)
theorem EncodeLength.jnle (inc : Byte) : EncodeLength.Statement (.jnle inc) := (by decide : 1 ≤ 2 ∧ 2 ≤ 6)
theorem EncodeLength.addEbIb (dst : Eb) (imm : Byte) : EncodeLength.Statement (.addEbIb dst imm) :=
  one_more_imm8 (encEb_length dst 0) imm
theorem EncodeLength.orEbIb (dst : Eb) (imm : Byte) : EncodeLength.Statement (.orEbIb dst imm) :=
  one_more_imm8 (encEb_length dst 1) imm
theorem EncodeLength.adcEbIb (dst : Eb) (imm : Byte) : EncodeLength.Statement (.adcEbIb dst imm) :=
  one_more_imm8 (encEb_length dst 2) imm
theorem EncodeLength.sbbEbIb (dst : Eb) (imm : Byte) : EncodeLength.Statement (.sbbEbIb dst imm) :=
  one_more_imm8 (encEb_length dst 3) imm
theorem EncodeLength.andEbIb (dst : Eb) (imm : Byte) : EncodeLength.Statement (.andEbIb dst imm) :=
  one_more_imm8 (encEb_length dst 4) imm
theorem EncodeLength.subEbIb (dst : Eb) (imm : Byte) : EncodeLength.Statement (.subEbIb dst imm) :=
  one_more_imm8 (encEb_length dst 5) imm
theorem EncodeLength.xorEbIb (dst : Eb) (imm : Byte) : EncodeLength.Statement (.xorEbIb dst imm) :=
  one_more_imm8 (encEb_length dst 6) imm
theorem EncodeLength.cmpEbIb (dst : Eb) (imm : Byte) : EncodeLength.Statement (.cmpEbIb dst imm) :=
  one_more_imm8 (encEb_length dst 7) imm
theorem EncodeLength.addEvIv (dst : Ev) (imm : Word) : EncodeLength.Statement (.addEvIv dst imm) :=
  one_more_imm16 (encEv_length dst 0) imm
theorem EncodeLength.orEvIv (dst : Ev) (imm : Word) : EncodeLength.Statement (.orEvIv dst imm) :=
  one_more_imm16 (encEv_length dst 1) imm
theorem EncodeLength.adcEvIv (dst : Ev) (imm : Word) : EncodeLength.Statement (.adcEvIv dst imm) :=
  one_more_imm16 (encEv_length dst 2) imm
theorem EncodeLength.sbbEvIv (dst : Ev) (imm : Word) : EncodeLength.Statement (.sbbEvIv dst imm) :=
  one_more_imm16 (encEv_length dst 3) imm
theorem EncodeLength.andEvIv (dst : Ev) (imm : Word) : EncodeLength.Statement (.andEvIv dst imm) :=
  one_more_imm16 (encEv_length dst 4) imm
theorem EncodeLength.subEvIv (dst : Ev) (imm : Word) : EncodeLength.Statement (.subEvIv dst imm) :=
  one_more_imm16 (encEv_length dst 5) imm
theorem EncodeLength.xorEvIv (dst : Ev) (imm : Word) : EncodeLength.Statement (.xorEvIv dst imm) :=
  one_more_imm16 (encEv_length dst 6) imm
theorem EncodeLength.cmpEvIv (dst : Ev) (imm : Word) : EncodeLength.Statement (.cmpEvIv dst imm) :=
  one_more_imm16 (encEv_length dst 7) imm
theorem EncodeLength.addEbIb82 (dst : Eb) (imm : Byte) : EncodeLength.Statement (.addEbIb82 dst imm) :=
  one_more_imm8 (encEb_length dst 0) imm
theorem EncodeLength.adcEbIb82 (dst : Eb) (imm : Byte) : EncodeLength.Statement (.adcEbIb82 dst imm) :=
  one_more_imm8 (encEb_length dst 2) imm
theorem EncodeLength.sbbEbIb82 (dst : Eb) (imm : Byte) : EncodeLength.Statement (.sbbEbIb82 dst imm) :=
  one_more_imm8 (encEb_length dst 3) imm
theorem EncodeLength.subEbIb82 (dst : Eb) (imm : Byte) : EncodeLength.Statement (.subEbIb82 dst imm) :=
  one_more_imm8 (encEb_length dst 5) imm
theorem EncodeLength.cmpEbIb82 (dst : Eb) (imm : Byte) : EncodeLength.Statement (.cmpEbIb82 dst imm) :=
  one_more_imm8 (encEb_length dst 7) imm
theorem EncodeLength.notUsed82 (modrm : Byte) : EncodeLength.Statement (.notUsed82 modrm) := (by decide : 1 ≤ 2 ∧ 2 ≤ 6)
theorem EncodeLength.addEvIs (dst : Ev) (imm : Byte) : EncodeLength.Statement (.addEvIs dst imm) :=
  one_more_imm8 (encEv_length dst 0) imm
theorem EncodeLength.adcEvIs (dst : Ev) (imm : Byte) : EncodeLength.Statement (.adcEvIs dst imm) :=
  one_more_imm8 (encEv_length dst 2) imm
theorem EncodeLength.sbbEvIs (dst : Ev) (imm : Byte) : EncodeLength.Statement (.sbbEvIs dst imm) :=
  one_more_imm8 (encEv_length dst 3) imm
theorem EncodeLength.subEvIs (dst : Ev) (imm : Byte) : EncodeLength.Statement (.subEvIs dst imm) :=
  one_more_imm8 (encEv_length dst 5) imm
theorem EncodeLength.cmpEvIs (dst : Ev) (imm : Byte) : EncodeLength.Statement (.cmpEvIs dst imm) :=
  one_more_imm8 (encEv_length dst 7) imm
theorem EncodeLength.notUsed83 (modrm : Byte) : EncodeLength.Statement (.notUsed83 modrm) := (by decide : 1 ≤ 2 ∧ 2 ≤ 6)
theorem EncodeLength.testEbGb (a : Eb) (b : Reg8) : EncodeLength.Statement (.testEbGb a b) :=
  one_more (encEb_length a b.code)
theorem EncodeLength.testEvGv (a : Ev) (b : Reg16) : EncodeLength.Statement (.testEvGv a b) :=
  one_more (encEv_length a b.code)
theorem EncodeLength.xchgGbEb (r : Reg8) (rm : Eb) : EncodeLength.Statement (.xchgGbEb r rm) :=
  one_more (encEb_length rm r.code)
theorem EncodeLength.xchgGvEv (r : Reg16) (rm : Ev) : EncodeLength.Statement (.xchgGvEv r rm) :=
  one_more (encEv_length rm r.code)
theorem EncodeLength.movEbGb (dst : Eb) (src : Reg8) : EncodeLength.Statement (.movEbGb dst src) :=
  one_more (encEb_length dst src.code)
theorem EncodeLength.movEvGv (dst : Ev) (src : Reg16) : EncodeLength.Statement (.movEvGv dst src) :=
  one_more (encEv_length dst src.code)
theorem EncodeLength.movGbEb (dst : Reg8) (src : Eb) : EncodeLength.Statement (.movGbEb dst src) :=
  one_more (encEb_length src dst.code)
theorem EncodeLength.movGvEv (dst : Reg16) (src : Ev) : EncodeLength.Statement (.movGvEv dst src) :=
  one_more (encEv_length src dst.code)
theorem EncodeLength.movEvSeg (dst : Ev) (src : SReg) : EncodeLength.Statement (.movEvSeg dst src) :=
  one_more (encEv_length dst (src.code.setWidth 3))
theorem EncodeLength.notUsed8C (modrm : Byte) : EncodeLength.Statement (.notUsed8C modrm) := (by decide : 1 ≤ 2 ∧ 2 ≤ 6)
theorem EncodeLength.lea (dst : Reg16) (src : MemOp) : EncodeLength.Statement (.lea dst src) :=
  one_more (encMem_length src dst.code)
theorem EncodeLength.refusedLea (dst : Reg16) (src : Reg16) : EncodeLength.Statement (.refusedLea dst src) :=
  (by decide : 1 ≤ 2 ∧ 2 ≤ 6)
theorem EncodeLength.movEsEv (src : Ev) : EncodeLength.Statement (.movEsEv src) := one_more (encEv_length src 0)
theorem EncodeLength.refusedMovCs (modrm : Byte) : EncodeLength.Statement (.refusedMovCs modrm) :=
  (by decide : 1 ≤ 2 ∧ 2 ≤ 6)
theorem EncodeLength.movSsEv (src : Ev) : EncodeLength.Statement (.movSsEv src) := one_more (encEv_length src 2)
theorem EncodeLength.movDsEv (src : Ev) : EncodeLength.Statement (.movDsEv src) := one_more (encEv_length src 3)
theorem EncodeLength.notUsed8E (modrm : Byte) : EncodeLength.Statement (.notUsed8E modrm) := (by decide : 1 ≤ 2 ∧ 2 ≤ 6)
theorem EncodeLength.popEv (dst : Ev) : EncodeLength.Statement (.popEv dst) := one_more (encEv_length dst 0)
theorem EncodeLength.notUsed8F (modrm : Byte) : EncodeLength.Statement (.notUsed8F modrm) := (by decide : 1 ≤ 2 ∧ 2 ≤ 6)
theorem EncodeLength.callFar (off : Word) (base : Word) : EncodeLength.Statement (.callFar off base) :=
  (by decide : 1 ≤ 5 ∧ 5 ≤ 6)
theorem EncodeLength.movAlMem (off : Word) : EncodeLength.Statement (.movAlMem off) := (by decide : 1 ≤ 3 ∧ 3 ≤ 6)
theorem EncodeLength.movAxMem (off : Word) : EncodeLength.Statement (.movAxMem off) := (by decide : 1 ≤ 3 ∧ 3 ≤ 6)
theorem EncodeLength.movMemAl (off : Word) : EncodeLength.Statement (.movMemAl off) := (by decide : 1 ≤ 3 ∧ 3 ≤ 6)
theorem EncodeLength.movMemAx (off : Word) : EncodeLength.Statement (.movMemAx off) := (by decide : 1 ≤ 3 ∧ 3 ≤ 6)
theorem EncodeLength.testAlIb (imm : Byte) : EncodeLength.Statement (.testAlIb imm) := (by decide : 1 ≤ 2 ∧ 2 ≤ 6)
theorem EncodeLength.testAxIv (imm : Word) : EncodeLength.Statement (.testAxIv imm) := (by decide : 1 ≤ 3 ∧ 3 ≤ 6)
theorem EncodeLength.movR8Ib (r : Reg8) (imm : Byte) : EncodeLength.Statement (.movR8Ib r imm) :=
  (by decide : 1 ≤ 2 ∧ 2 ≤ 6)
theorem EncodeLength.movR16Iv (r : Reg16) (imm : Word) : EncodeLength.Statement (.movR16Iv r imm) :=
  (by decide : 1 ≤ 3 ∧ 3 ≤ 6)
theorem EncodeLength.notUsedC0 (low : BitVec 1) : EncodeLength.Statement (.notUsedC0 low) := (by decide : 1 ≤ 1 ∧ 1 ≤ 6)
theorem EncodeLength.retPop (n : Word) : EncodeLength.Statement (.retPop n) := (by decide : 1 ≤ 3 ∧ 3 ≤ 6)
theorem EncodeLength.les (dst : Reg16) (src : MemOp) : EncodeLength.Statement (.les dst src) :=
  one_more (encMem_length src dst.code)
theorem EncodeLength.refusedLes (dst : Reg16) (src : Reg16) : EncodeLength.Statement (.refusedLes dst src) :=
  (by decide : 1 ≤ 2 ∧ 2 ≤ 6)
theorem EncodeLength.lds (dst : Reg16) (src : MemOp) : EncodeLength.Statement (.lds dst src) :=
  one_more (encMem_length src dst.code)
theorem EncodeLength.refusedLds (dst : Reg16) (src : Reg16) : EncodeLength.Statement (.refusedLds dst src) :=
  (by decide : 1 ≤ 2 ∧ 2 ≤ 6)
theorem EncodeLength.movEbIb (dst : Eb) (imm : Byte) : EncodeLength.Statement (.movEbIb dst imm) :=
  one_more_imm8 (encEb_length dst 0) imm
theorem EncodeLength.notUsedC6 (modrm : Byte) : EncodeLength.Statement (.notUsedC6 modrm) := (by decide : 1 ≤ 2 ∧ 2 ≤ 6)
theorem EncodeLength.movEvIv (dst : Ev) (imm : Word) : EncodeLength.Statement (.movEvIv dst imm) :=
  one_more_imm16 (encEv_length dst 0) imm
theorem EncodeLength.notUsedC7 (modrm : Byte) : EncodeLength.Statement (.notUsedC7 modrm) := (by decide : 1 ≤ 2 ∧ 2 ≤ 6)
theorem EncodeLength.notUsedC8 (low : BitVec 1) : EncodeLength.Statement (.notUsedC8 low) := (by decide : 1 ≤ 1 ∧ 1 ≤ 6)
theorem EncodeLength.retfPop (n : Word) : EncodeLength.Statement (.retfPop n) := (by decide : 1 ≤ 3 ∧ 3 ≤ 6)
theorem EncodeLength.intIb (n : Byte) : EncodeLength.Statement (.intIb n) := (by decide : 1 ≤ 2 ∧ 2 ≤ 6)
theorem EncodeLength.rolEb1 (dst : Eb) : EncodeLength.Statement (.rolEb1 dst) := one_more (encEb_length dst 0)
theorem EncodeLength.rorEb1 (dst : Eb) : EncodeLength.Statement (.rorEb1 dst) := one_more (encEb_length dst 1)
theorem EncodeLength.rclEb1 (dst : Eb) : EncodeLength.Statement (.rclEb1 dst) := one_more (encEb_length dst 2)
theorem EncodeLength.rcrEb1 (dst : Eb) : EncodeLength.Statement (.rcrEb1 dst) := one_more (encEb_length dst 3)
theorem EncodeLength.shlEb1 (dst : Eb) : EncodeLength.Statement (.shlEb1 dst) := one_more (encEb_length dst 4)
theorem EncodeLength.shrEb1 (dst : Eb) : EncodeLength.Statement (.shrEb1 dst) := one_more (encEb_length dst 5)
theorem EncodeLength.sarEb1 (dst : Eb) : EncodeLength.Statement (.sarEb1 dst) := one_more (encEb_length dst 7)
theorem EncodeLength.notUsedD0 (modrm : Byte) : EncodeLength.Statement (.notUsedD0 modrm) := (by decide : 1 ≤ 2 ∧ 2 ≤ 6)
theorem EncodeLength.rolEv1 (dst : Ev) : EncodeLength.Statement (.rolEv1 dst) := one_more (encEv_length dst 0)
theorem EncodeLength.rorEv1 (dst : Ev) : EncodeLength.Statement (.rorEv1 dst) := one_more (encEv_length dst 1)
theorem EncodeLength.rclEv1 (dst : Ev) : EncodeLength.Statement (.rclEv1 dst) := one_more (encEv_length dst 2)
theorem EncodeLength.rcrEv1 (dst : Ev) : EncodeLength.Statement (.rcrEv1 dst) := one_more (encEv_length dst 3)
theorem EncodeLength.shlEv1 (dst : Ev) : EncodeLength.Statement (.shlEv1 dst) := one_more (encEv_length dst 4)
theorem EncodeLength.shrEv1 (dst : Ev) : EncodeLength.Statement (.shrEv1 dst) := one_more (encEv_length dst 5)
theorem EncodeLength.sarEv1 (dst : Ev) : EncodeLength.Statement (.sarEv1 dst) := one_more (encEv_length dst 7)
theorem EncodeLength.notUsedD1 (modrm : Byte) : EncodeLength.Statement (.notUsedD1 modrm) := (by decide : 1 ≤ 2 ∧ 2 ≤ 6)
theorem EncodeLength.rolEbCl (dst : Eb) : EncodeLength.Statement (.rolEbCl dst) := one_more (encEb_length dst 0)
theorem EncodeLength.rorEbCl (dst : Eb) : EncodeLength.Statement (.rorEbCl dst) := one_more (encEb_length dst 1)
theorem EncodeLength.rclEbCl (dst : Eb) : EncodeLength.Statement (.rclEbCl dst) := one_more (encEb_length dst 2)
theorem EncodeLength.rcrEbCl (dst : Eb) : EncodeLength.Statement (.rcrEbCl dst) := one_more (encEb_length dst 3)
theorem EncodeLength.shlEbCl (dst : Eb) : EncodeLength.Statement (.shlEbCl dst) := one_more (encEb_length dst 4)
theorem EncodeLength.shrEbCl (dst : Eb) : EncodeLength.Statement (.shrEbCl dst) := one_more (encEb_length dst 5)
theorem EncodeLength.sarEbCl (dst : Eb) : EncodeLength.Statement (.sarEbCl dst) := one_more (encEb_length dst 7)
theorem EncodeLength.notUsedD2 (modrm : Byte) : EncodeLength.Statement (.notUsedD2 modrm) := (by decide : 1 ≤ 2 ∧ 2 ≤ 6)
theorem EncodeLength.rolEvCl (dst : Ev) : EncodeLength.Statement (.rolEvCl dst) := one_more (encEv_length dst 0)
theorem EncodeLength.rorEvCl (dst : Ev) : EncodeLength.Statement (.rorEvCl dst) := one_more (encEv_length dst 1)
theorem EncodeLength.rclEvCl (dst : Ev) : EncodeLength.Statement (.rclEvCl dst) := one_more (encEv_length dst 2)
theorem EncodeLength.rcrEvCl (dst : Ev) : EncodeLength.Statement (.rcrEvCl dst) := one_more (encEv_length dst 3)
theorem EncodeLength.shlEvCl (dst : Ev) : EncodeLength.Statement (.shlEvCl dst) := one_more (encEv_length dst 4)
theorem EncodeLength.shrEvCl (dst : Ev) : EncodeLength.Statement (.shrEvCl dst) := one_more (encEv_length dst 5)
theorem EncodeLength.sarEvCl (dst : Ev) : EncodeLength.Statement (.sarEvCl dst) := one_more (encEv_length dst 7)
theorem EncodeLength.notUsedD3 (modrm : Byte) : EncodeLength.Statement (.notUsedD3 modrm) := (by decide : 1 ≤ 2 ∧ 2 ≤ 6)
theorem EncodeLength.refusedAam (b : Byte) : EncodeLength.Statement (.refusedAam b) := (by decide : 1 ≤ 2 ∧ 2 ≤ 6)
theorem EncodeLength.refusedAad (b : Byte) : EncodeLength.Statement (.refusedAad b) := (by decide : 1 ≤ 2 ∧ 2 ≤ 6)
theorem EncodeLength.esc (x : BitVec 3) (y : BitVec 3) (rm : Ev) : EncodeLength.Statement (.esc x y rm) :=
  one_more (encEv_length rm y)
theorem EncodeLength.loopne (inc : Byte) : EncodeLength.Statement (.loopne inc) := (by decide : 1 ≤ 2 ∧ 2 ≤ 6)
theorem EncodeLength.loope (inc : Byte) : EncodeLength.Statement (.loope inc) := (by decide : 1 ≤ 2 ∧ 2 ≤ 6)
theorem EncodeLength.loop (inc : Byte) : EncodeLength.Statement (.loop inc) := (by decide : 1 ≤ 2 ∧ 2 ≤ 6)
theorem EncodeLength.jcxz (inc : Byte) : EncodeLength.Statement (.jcxz inc) := (by decide : 1 ≤ 2 ∧ 2 ≤ 6)
theorem EncodeLength.inAlIb (port : Byte) : EncodeLength.Statement (.inAlIb port) := (by decide : 1 ≤ 2 ∧ 2 ≤ 6)
theorem EncodeLength.inAxIb (port : Byte) : EncodeLength.Statement (.inAxIb port) := (by decide : 1 ≤ 2 ∧ 2 ≤ 6)
theorem EncodeLength.outIbAl (port : Byte) : EncodeLength.Statement (.outIbAl port) := (by decide : 1 ≤ 2 ∧ 2 ≤ 6)
theorem EncodeLength.outIbAx (port : Byte) : EncodeLength.Statement (.outIbAx port) := (by decide : 1 ≤ 2 ∧ 2 ≤ 6)
theorem EncodeLength.callNear (inc : Word) : EncodeLength.Statement (.callNear inc) := (by decide : 1 ≤ 3 ∧ 3 ≤ 6)
theorem EncodeLength.jmpNear (inc : Word) : EncodeLength.Statement (.jmpNear inc) := (by decide : 1 ≤ 3 ∧ 3 ≤ 6)
theorem EncodeLength.jmpFar (off : Word) (base : Word) : EncodeLength.Statement (.jmpFar off base) :=
  (by decide : 1 ≤ 5 ∧ 5 ≤ 6)
theorem EncodeLength.jmpShort (inc : Byte) : EncodeLength.Statement (.jmpShort inc) := (by decide : 1 ≤ 2 ∧ 2 ≤ 6)
theorem EncodeLength.testEbIb (a : Eb) (imm : Byte) : EncodeLength.Statement (.testEbIb a imm) :=
  one_more_imm8 (encEb_length a 0) imm
theorem EncodeLength.notUsedF6 (modrm : Byte) : EncodeLength.Statement (.notUsedF6 modrm) := (by decide : 1 ≤ 2 ∧ 2 ≤ 6)
theorem EncodeLength.notEb (dst : Eb) : EncodeLength.Statement (.notEb dst) := one_more (encEb_length dst 2)
theorem EncodeLength.negEb (dst : Eb) : EncodeLength.Statement (.negEb dst) := one_more (encEb_length dst 3)
theorem EncodeLength.mulEb (src : Eb) : EncodeLength.Statement (.mulEb src) := one_more (encEb_length src 4)
theorem EncodeLength.imulEb (src : Eb) : EncodeLength.Statement (.imulEb src) := one_more (encEb_length src 5)
theorem EncodeLength.divEb (src : Eb) : EncodeLength.Statement (.divEb src) := one_more (encEb_length src 6)
theorem EncodeLength.idivEb (src : Eb) : EncodeLength.Statement (.idivEb src) := one_more (encEb_length src 7)
theorem EncodeLength.testEvIv (a : Ev) (imm : Word) : EncodeLength.Statement (.testEvIv a imm) :=
  one_more_imm16 (encEv_length a 0) imm
theorem EncodeLength.notUsedF7 (modrm : Byte) : EncodeLength.Statement (.notUsedF7 modrm) := (by decide : 1 ≤ 2 ∧ 2 ≤ 6)
theorem EncodeLength.notEv (dst : Ev) : EncodeLength.Statement (.notEv dst) := one_more (encEv_length dst 2)
theorem EncodeLength.negEv (dst : Ev) : EncodeLength.Statement (.negEv dst) := one_more (encEv_length dst 3)
theorem EncodeLength.mulEv (src : Ev) : EncodeLength.Statement (.mulEv src) := one_more (encEv_length src 4)
theorem EncodeLength.imulEv (src : Ev) : EncodeLength.Statement (.imulEv src) := one_more (encEv_length src 5)
theorem EncodeLength.divEv (src : Ev) : EncodeLength.Statement (.divEv src) := one_more (encEv_length src 6)
theorem EncodeLength.idivEv (src : Ev) : EncodeLength.Statement (.idivEv src) := one_more (encEv_length src 7)
theorem EncodeLength.incEb (dst : Eb) : EncodeLength.Statement (.incEb dst) := one_more (encEb_length dst 0)
theorem EncodeLength.decEb (dst : Eb) : EncodeLength.Statement (.decEb dst) := one_more (encEb_length dst 1)
theorem EncodeLength.notUsedFE (modrm : Byte) : EncodeLength.Statement (.notUsedFE modrm) := (by decide : 1 ≤ 2 ∧ 2 ≤ 6)
theorem EncodeLength.incEv (dst : Ev) : EncodeLength.Statement (.incEv dst) := one_more (encEv_length dst 0)
theorem EncodeLength.decEv (dst : Ev) : EncodeLength.Statement (.decEv dst) := one_more (encEv_length dst 1)
theorem EncodeLength.callEv (target : Ev) : EncodeLength.Statement (.callEv target) := one_more (encEv_length target 2)
theorem EncodeLength.callMem32 (ptr : MemOp) : EncodeLength.Statement (.callMem32 ptr) := one_more (encMem_length ptr 3)
theorem EncodeLength.refusedCallMem32 (r : Reg16) : EncodeLength.Statement (.refusedCallMem32 r) :=
  (by decide : 1 ≤ 2 ∧ 2 ≤ 6)
theorem EncodeLength.jmpEv (target : Ev) : EncodeLength.Statement (.jmpEv target) := one_more (encEv_length target 4)
theorem EncodeLength.jmpMem32 (ptr : MemOp) : EncodeLength.Statement (.jmpMem32 ptr) := one_more (encMem_length ptr 5)
theorem EncodeLength.refusedJmpMem32 (r : Reg16) : EncodeLength.Statement (.refusedJmpMem32 r) :=
  (by decide : 1 ≤ 2 ∧ 2 ≤ 6)
theorem EncodeLength.pushEv (src : Ev) : EncodeLength.Statement (.pushEv src) := one_more (encEv_length src 6)
theorem EncodeLength.notUsedFF (modrm : Byte) : EncodeLength.Statement (.notUsedFF modrm) := (by decide : 1 ≤ 2 ∧ 2 ≤ 6)
theorem EncodeLength.pushEs : EncodeLength.Statement (.pushEs) := (by decide : 1 ≤ 1 ∧ 1 ≤ 6)
theorem EncodeLength.popEs : EncodeLength.Statement (.popEs) := (by decide : 1 ≤ 1 ∧ 1 ≤ 6)
theorem EncodeLength.pushCs : EncodeLength.Statement (.pushCs) := (by decide : 1 ≤ 1 ∧ 1 ≤ 6)
theorem EncodeLength.notUsed0F : EncodeLength.Statement (.notUsed0F) := (by decide : 1 ≤ 1 ∧ 1 ≤ 6)
theorem EncodeLength.pushSs : EncodeLength.Statement (.pushSs) := (by decide : 1 ≤ 1 ∧ 1 ≤ 6)
theorem EncodeLength.popSs : EncodeLength.Statement (.popSs) := (by decide : 1 ≤ 1 ∧ 1 ≤ 6)
theorem EncodeLength.pushDs : EncodeLength.Statement (.pushDs) := (by decide : 1 ≤ 1 ∧ 1 ≤ 6)
theorem EncodeLength.popDs : EncodeLength.Statement (.popDs) := (by decide : 1 ≤ 1 ∧ 1 ≤ 6)
theorem EncodeLength.segEs : EncodeLength.Statement (.segEs) := (by decide : 1 ≤ 1 ∧ 1 ≤ 6)
theorem EncodeLength.daa : EncodeLength.Statement (.daa) := (by decide : 1 ≤ 1 ∧ 1 ≤ 6)
theorem EncodeLength.segCs : EncodeLength.Statement (.segCs) := (by decide : 1 ≤ 1 ∧ 1 ≤ 6)
theorem EncodeLength.das : EncodeLength.Statement (.das) := (by decide : 1 ≤ 1 ∧ 1 ≤ 6)
theorem EncodeLength.segSs : EncodeLength.Statement (.segSs) := (by decide : 1 ≤ 1 ∧ 1 ≤ 6)
theorem EncodeLength.aaa : EncodeLength.Statement (.aaa) := (by decide : 1 ≤ 1 ∧ 1 ≤ 6)
theorem EncodeLength.segDs : EncodeLength.Statement (.segDs) := (by decide : 1 ≤ 1 ∧ 1 ≤ 6)
theorem EncodeLength.aas : EncodeLength.Statement (.aas) := (by decide : 1 ≤ 1 ∧ 1 ≤ 6)
theorem EncodeLength.nop : EncodeLength.Statement (.nop) := (by decide : 1 ≤ 1 ∧ 1 ≤ 6)
theorem EncodeLength.xchgAxCx : EncodeLength.Statement (.xchgAxCx) := (by decide : 1 ≤ 1 ∧ 1 ≤ 6)
theorem EncodeLength.xchgAxDx : EncodeLength.Statement (.xchgAxDx) := (by decide : 1 ≤ 1 ∧ 1 ≤ 6)
theorem EncodeLength.xchgAxBx : EncodeLength.Statement (.xchgAxBx) := (by decide : 1 ≤ 1 ∧ 1 ≤ 6)
theorem EncodeLength.xchgAxSp : EncodeLength.Statement (.xchgAxSp) := (by decide : 1 ≤ 1 ∧ 1 ≤ 6)
theorem EncodeLength.xchgAxBp : EncodeLength.Statement (.xchgAxBp) := (by decide : 1 ≤ 1 ∧ 1 ≤ 6)
theorem EncodeLength.xchgAxSi : EncodeLength.Statement (.xchgAxSi) := (by decide : 1 ≤ 1 ∧ 1 ≤ 6)
theorem EncodeLength.xchgAxDi : EncodeLength.Statement (.xchgAxDi) := (by decide : 1 ≤ 1 ∧ 1 ≤ 6)
theorem EncodeLength.cbw : EncodeLength.Statement (.cbw) := (by decide : 1 ≤ 1 ∧ 1 ≤ 6)
theorem EncodeLength.cwd : EncodeLength.Statement (.cwd) := (by decide : 1 ≤ 1 ∧ 1 ≤ 6)
theorem EncodeLength.wait : EncodeLength.Statement (.wait) := (by decide : 1 ≤ 1 ∧ 1 ≤ 6)
theorem EncodeLength.pushf : EncodeLength.Statement (.pushf) := (by decide : 1 ≤ 1 ∧ 1 ≤ 6)
theorem EncodeLength.popf : EncodeLength.Statement (.popf) := (by decide : 1 ≤ 1 ∧ 1 ≤ 6)
theorem EncodeLength.sahf : EncodeLength.Statement (.sahf) := (by decide : 1 ≤ 1 ∧ 1 ≤ 6)
theorem EncodeLength.lahf : EncodeLength.Statement (.lahf) := (by decide : 1 ≤ 1 ∧ 1 ≤ 6)
theorem EncodeLength.movsb : EncodeLength.Statement (.movsb) := (by decide : 1 ≤ 1 ∧ 1 ≤ 6)
theorem EncodeLength.movsw : EncodeLength.Statement (.movsw) := (by decide : 1 ≤ 1 ∧ 1 ≤ 6)
theorem EncodeLength.cmpsb : EncodeLength.Statement (.cmpsb) := (by decide : 1 ≤ 1 ∧ 1 ≤ 6)
theorem EncodeLength.cmpsw : EncodeLength.Statement (.cmpsw) := (by decide : 1 ≤ 1 ∧ 1 ≤ 6)
theorem EncodeLength.stosb : EncodeLength.Statement (.stosb) := (by decide : 1 ≤ 1 ∧ 1 ≤ 6)
theorem EncodeLength.stosw : EncodeLength.Statement (.stosw) := (by decide : 1 ≤ 1 ∧ 1 ≤ 6)
theorem EncodeLength.lodsb : EncodeLength.Statement (.lodsb) := (by decide : 1 ≤ 1 ∧ 1 ≤ 6)
theorem EncodeLength.lodsw : EncodeLength.Statement (.lodsw) := (by decide : 1 ≤ 1 ∧ 1 ≤ 6)
theorem EncodeLength.scasb : EncodeLength.Statement (.scasb) := (by decide : 1 ≤ 1 ∧ 1 ≤ 6)
theorem EncodeLength.scasw : EncodeLength.Statement (.scasw) := (by decide : 1 ≤ 1 ∧ 1 ≤ 6)
theorem EncodeLength.ret : EncodeLength.Statement (.ret) := (by decide : 1 ≤ 1 ∧ 1 ≤ 6)
theorem EncodeLength.retf : EncodeLength.Statement (.retf) := (by decide : 1 ≤ 1 ∧ 1 ≤ 6)
theorem EncodeLength.int3 : EncodeLength.Statement (.int3) := (by decide : 1 ≤ 1 ∧ 1 ≤ 6)
theorem EncodeLength.into : EncodeLength.Statement (.into) := (by decide : 1 ≤ 1 ∧ 1 ≤ 6)
theorem EncodeLength.iret : EncodeLength.Statement (.iret) := (by decide : 1 ≤ 1 ∧ 1 ≤ 6)
theorem EncodeLength.aam : EncodeLength.Statement (.aam) := (by decide : 1 ≤ 2 ∧ 2 ≤ 6)
theorem EncodeLength.aad : EncodeLength.Statement (.aad) := (by decide : 1 ≤ 2 ∧ 2 ≤ 6)
theorem EncodeLength.notUsedD6 : EncodeLength.Statement (.notUsedD6) := (by decide : 1 ≤ 1 ∧ 1 ≤ 6)
theorem EncodeLength.xlat : EncodeLength.Statement (.xlat) := (by decide : 1 ≤ 1 ∧ 1 ≤ 6)
theorem EncodeLength.inAlDx : EncodeLength.Statement (.inAlDx) := (by decide : 1 ≤ 1 ∧ 1 ≤ 6)
theorem EncodeLength.inAxDx : EncodeLength.Statement (.inAxDx) := (by decide : 1 ≤ 1 ∧ 1 ≤ 6)
theorem EncodeLength.outDxAl : EncodeLength.Statement (.outDxAl) := (by decide : 1 ≤ 1 ∧ 1 ≤ 6)
theorem EncodeLength.outDxAx : EncodeLength.Statement (.outDxAx) := (by decide : 1 ≤ 1 ∧ 1 ≤ 6)
theorem EncodeLength.lock : EncodeLength.Statement (.lock) := (by decide : 1 ≤ 1 ∧ 1 ≤ 6)
theorem EncodeLength.notUsedF1 : EncodeLength.Statement (.notUsedF1) := (by decide : 1 ≤ 1 ∧ 1 ≤ 6)
theorem EncodeLength.repne : EncodeLength.Statement (.repne) := (by decide : 1 ≤ 1 ∧ 1 ≤ 6)
theorem EncodeLength.rep : EncodeLength.Statement (.rep) := (by decide : 1 ≤ 1 ∧ 1 ≤ 6)
theorem EncodeLength.hlt : EncodeLength.Statement (.hlt) := (by decide : 1 ≤ 1 ∧ 1 ≤ 6)
theorem EncodeLength.cmc : EncodeLength.Statement (.cmc) := (by decide : 1 ≤ 1 ∧ 1 ≤ 6)
theorem EncodeLength.clc : EncodeLength.Statement (.clc) := (by decide : 1 ≤ 1 ∧ 1 ≤ 6)
theorem EncodeLength.stc : EncodeLength.Statement (.stc) := (by decide : 1 ≤ 1 ∧ 1 ≤ 6)
theorem EncodeLength.cli : EncodeLength.Statement (.cli) := (by decide : 1 ≤ 1 ∧ 1 ≤ 6)
theorem EncodeLength.sti : EncodeLength.Statement (.sti) := (by decide : 1 ≤ 1 ∧ 1 ≤ 6)
theorem EncodeLength.cld : EncodeLength.Statement (.cld) := (by decide : 1 ≤ 1 ∧ 1 ≤ 6)
theorem EncodeLength.std : EncodeLength.Statement (.std) := (by decide : 1 ≤ 1 ∧ 1 ≤ 6)

end Sys2Proof.Laws
end

