-- ==== Sys2Proof/Tests/Slice0.lean ====
section
/-! SUPPORT. Tests: ill-formed terms that the check refuses, the decoding of words written out from the spec's encoding,
single steps taken from the vectors of spec/95_test_vectors.md (each theorem names its vector), and states that meet the
hypotheses of the statements, clause by clause. -/
namespace Sys2Proof.Tests
open Sys2Proof Sys2Proof.Machine

/-! ## Ill-formed terms (spec/30_encoding.md R76, R102, R104, R105) -/

/-- `[BP]` without displacement, which has no encoding. -/
def noBp : MemOp := .indexed .bp .absent

/-- No form of operand accepts `[BP]` without displacement. -/
theorem test_wf_refuses_bp : (noBp.wf || Eb.wf (.mem noBp) || Ev.wf (.mem noBp)) = false := by decide

/-- In each place an operand can stand. -/
theorem test_wf_refuses_bp_operands :
    ([.addEbGb (.mem noBp) .al, .addEvGv (.mem noBp) .ax, .addGbEb .al (.mem noBp), .addGvEv .ax (.mem noBp),
      .addEbIb (.mem noBp) 1, .addEbIb82 (.mem noBp) 1, .addEvIv (.mem noBp) 1, .addEvIs (.mem noBp) 1,
      .xchgGvEv .ax (.mem noBp), .movEvSeg (.mem noBp) .es, .movSsEv (.mem noBp), .lea .ax noBp, .lds .ax noBp,
      .les .ax noBp, .popEv (.mem noBp), .shlEb1 (.mem noBp), .shlEvCl (.mem noBp), .mulEb (.mem noBp),
      .idivEv (.mem noBp), .callEv (.mem noBp), .callMem32 noBp, .jmpEv (.mem noBp), .jmpMem32 noBp,
      .pushEv (.mem noBp), .esc 0 0 (.mem noBp)] : List Instr).any Instr.wf = false := by decide

/-- A reserved second byte must have a REG value that the table marks: here each has one it does not mark. -/
theorem test_wf_refuses_reg :
    ([.notUsed82 0xC0, .notUsed83 0xFF, .notUsed8C 0xD8, .notUsed8E 0xD8, .refusedMovCs 0xC0, .notUsed8F 0xC0,
      .notUsedC6 0xC0, .notUsedC7 0x00, .notUsedD0 0xF8, .notUsedD1 0xE8, .notUsedD2 0xF8, .notUsedD3 0xE8,
      .notUsedF6 0xC0, .notUsedF7 0xD0, .notUsedFE 0xC8, .notUsedFF 0xF0] : List Instr).any Instr.wf = false := by
  decide

/-- The second byte 0AH is AAM and AAD themselves. -/
theorem test_wf_refuses_0A : (Instr.wf (.refusedAam 0x0A) || Instr.wf (.refusedAad 0x0A)) = false := by decide

/-! ## Decoding

One instruction for every constructor, its bytes written out from Table 1-23 as spec/30_encoding.md gives it (opcode
byte, mod-reg-r/m byte, displacement low byte first, immediate low byte first). -/

/-- Each of the instructions is well formed, is what its bytes decode to, and leaves the byte that follows. -/
def decodes (l : List (List Byte × Instr)) : Bool :=
  l.all fun q => q.2.wf && decode (q.1 ++ [0xF4]) == .instr q.2 [0xF4]

/-- First bytes 00H to 0FH (spec/30_encoding.md R88 to R95). -/
theorem test_decode_row0 :
    decodes [([0x00, 0xCD], .addEbGb (.reg .ch) .cl),
      ([0x01, 0x64, 0x7F], .addEvGv (.mem (.indexed .si (.d8 0x7F))) .sp),
      ([0x02, 0x3F], .addGbEb .bh (.mem (.indexed .bx .absent))),
      ([0x03, 0x16, 0xCD, 0xAB], .addGvEv .dx (.mem (.direct 0xABCD))), ([0x04, 0x7E], .addAlIb 0x7E),
      ([0x05, 0xDC, 0xFE], .addAxIv 0xFEDC), ([0x08, 0x5E, 0x00], .orEbGb (.mem (.indexed .bp (.d8 0))) .bl),
      ([0x09, 0x35], .orEvGv (.mem (.indexed .di .absent)) .si),
      ([0x0A, 0x89, 0x34, 0x92], .orGbEb .cl (.mem (.indexed .bxDi (.d16 0x9234)))),
      ([0x0B, 0xA6, 0x01, 0x80], .orGvEv .sp (.mem (.indexed .bp (.d16 0x8001)))), ([0x0C, 0x7E], .orAlIb 0x7E),
      ([0x0D, 0xDC, 0xFE], .orAxIv 0xFEDC), ([0x06], .pushEs), ([0x07], .popEs), ([0x0E], .pushCs),
      ([0x0F], .notUsed0F)] = true := by decide

/-- First bytes 10H to 1FH (spec/30_encoding.md R88 to R95). -/
theorem test_decode_row1 :
    decodes [([0x10, 0x2B], .adcEbGb (.mem (.indexed .bpDi .absent)) .ch), ([0x11, 0xC6], .adcEvGv (.reg .si) .ax),
      ([0x12, 0xDD], .adcGbEb .bl (.reg .ch)), ([0x13, 0x74, 0x7F], .adcGvEv .si (.mem (.indexed .si (.d8 0x7F)))),
      ([0x14, 0x7E], .adcAlIb 0x7E), ([0x15, 0xDC, 0xFE], .adcAxIv 0xFEDC), ([0x18, 0xFB], .sbbEbGb (.reg .bl) .bh),
      ([0x19, 0x10], .sbbEvGv (.mem (.indexed .bxSi .absent)) .dx),
      ([0x1A, 0x6E, 0x00], .sbbGbEb .ch (.mem (.indexed .bp (.d8 0)))),
      ([0x1B, 0x05], .sbbGvEv .ax (.mem (.indexed .di .absent))), ([0x1C, 0x7E], .sbbAlIb 0x7E),
      ([0x1D, 0xDC, 0xFE], .sbbAxIv 0xFEDC), ([0x16], .pushSs), ([0x17], .popSs), ([0x1E], .pushDs),
      ([0x1F], .popDs)] = true := by decide

/-- First bytes 20H to 2FH (spec/30_encoding.md R88 to R95). -/
theorem test_decode_row2 :
    decodes [([0x20, 0x8F, 0xFF, 0x00], .andEbGb (.mem (.indexed .bx (.d16 0x00FF))) .cl),
      ([0x21, 0x62, 0xFE], .andEvGv (.mem (.indexed .bpSi (.d8 0xFE))) .sp),
      ([0x22, 0x3B], .andGbEb .bh (.mem (.indexed .bpDi .absent))), ([0x23, 0xD6], .andGvEv .dx (.reg .si)),
      ([0x24, 0x7E], .andAlIb 0x7E), ([0x25, 0xDC, 0xFE], .andAxIv 0xFEDC),
      ([0x28, 0x1F], .subEbGb (.mem (.indexed .bx .absent)) .bl),
      ([0x29, 0x36, 0xCD, 0xAB], .subEvGv (.mem (.direct 0xABCD)) .si), ([0x2A, 0xCB], .subGbEb .cl (.reg .bl)),
      ([0x2B, 0x20], .subGvEv .sp (.mem (.indexed .bxSi .absent))), ([0x2C, 0x7E], .subAlIb 0x7E),
      ([0x2D, 0xDC, 0xFE], .subAxIv 0xFEDC), ([0x26], .segEs), ([0x27], .daa), ([0x2E], .segCs),
      ([0x2F], .das)] = true := by decide

/-- First bytes 30H to 3FH (spec/30_encoding.md R88 to R95). -/
theorem test_decode_row3 :
    decodes [([0x30, 0xA9, 0x34, 0x92], .xorEbGb (.mem (.indexed .bxDi (.d16 0x9234))) .ch),
      ([0x31, 0x86, 0x01, 0x80], .xorEvGv (.mem (.indexed .bp (.d16 0x8001))) .ax),
      ([0x32, 0x9F, 0xFF, 0x00], .xorGbEb .bl (.mem (.indexed .bx (.d16 0x00FF)))),
      ([0x33, 0x72, 0xFE], .xorGvEv .si (.mem (.indexed .bpSi (.d8 0xFE)))), ([0x34, 0x7E], .xorAlIb 0x7E),
      ([0x35, 0xDC, 0xFE], .xorAxIv 0xFEDC), ([0x38, 0xFD], .cmpEbGb (.reg .ch) .bh),
      ([0x39, 0x54, 0x7F], .cmpEvGv (.mem (.indexed .si (.d8 0x7F))) .dx),
      ([0x3A, 0x2F], .cmpGbEb .ch (.mem (.indexed .bx .absent))),
      ([0x3B, 0x06, 0xCD, 0xAB], .cmpGvEv .ax (.mem (.direct 0xABCD))), ([0x3C, 0x7E], .cmpAlIb 0x7E),
      ([0x3D, 0xDC, 0xFE], .cmpAxIv 0xFEDC), ([0x36], .segSs), ([0x37], .aaa), ([0x3E], .segDs),
      ([0x3F], .aas)] = true := by decide

/-- First bytes 40H to 4FH (spec/30_encoding.md R88 to R95). -/
theorem test_decode_row4 :
    decodes [([0x46], .incR16 .si), ([0x49], .decR16 .cx)] = true := by decide

/-- First bytes 50H to 5FH (spec/30_encoding.md R88 to R95). -/
theorem test_decode_row5 :
    decodes [([0x54], .pushR16 .sp), ([0x5F], .popR16 .di)] = true := by decide

/-- First bytes 60H to 6FH (spec/30_encoding.md R88 to R95). -/
theorem test_decode_row6 :
    decodes [([0x6B], .notUsed60 0xB)] = true := by decide

/-- First bytes 70H to 7FH (spec/30_encoding.md R88 to R95). -/
theorem test_decode_row7 :
    decodes [([0x70, 0xC3], .jo 0xC3), ([0x71, 0x85], .jno 0x85), ([0x72, 0x7E], .jb 0x7E),
      ([0x73, 0xC3], .jnb 0xC3), ([0x74, 0x85], .je 0x85), ([0x75, 0x7E], .jne 0x7E), ([0x76, 0xC3], .jbe 0xC3),
      ([0x77, 0x85], .jnbe 0x85), ([0x78, 0x7E], .js 0x7E), ([0x79, 0xC3], .jns 0xC3), ([0x7A, 0x85], .jp 0x85),
      ([0x7B, 0x7E], .jnp 0x7E), ([0x7C, 0xC3], .jl 0xC3), ([0x7D, 0x85], .jnl 0x85), ([0x7E, 0x7E], .jle 0x7E),
      ([0x7F, 0xC3], .jnle 0xC3)] = true := by decide

/-- First bytes 80H to 8FH (spec/30_encoding.md R88 to R95). -/
theorem test_decode_row8 :
    decodes [([0x80, 0xC6, 0x85], .addEbIb (.reg .dh) 0x85), ([0x80, 0xCD, 0x7E], .orEbIb (.reg .ch) 0x7E),
      ([0x80, 0x54, 0x7F, 0xC3], .adcEbIb (.mem (.indexed .si (.d8 0x7F))) 0xC3),
      ([0x80, 0x1F, 0x85], .sbbEbIb (.mem (.indexed .bx .absent)) 0x85),
      ([0x80, 0x26, 0xCD, 0xAB, 0x7E], .andEbIb (.mem (.direct 0xABCD)) 0x7E),
      ([0x80, 0xEB, 0xC3], .subEbIb (.reg .bl) 0xC3),
      ([0x80, 0x30, 0x85], .xorEbIb (.mem (.indexed .bxSi .absent)) 0x85),
      ([0x80, 0x7E, 0x00, 0x7E], .cmpEbIb (.mem (.indexed .bp (.d8 0))) 0x7E),
      ([0x81, 0x05, 0xDC, 0xFE], .addEvIv (.mem (.indexed .di .absent)) 0xFEDC),
      ([0x81, 0x89, 0x34, 0x92, 0x01, 0x8F], .orEvIv (.mem (.indexed .bxDi (.d16 0x9234))) 0x8F01),
      ([0x81, 0x96, 0x01, 0x80, 0x34, 0x12], .adcEvIv (.mem (.indexed .bp (.d16 0x8001))) 0x1234),
      ([0x81, 0x9F, 0xFF, 0x00, 0xDC, 0xFE], .sbbEvIv (.mem (.indexed .bx (.d16 0x00FF))) 0xFEDC),
      ([0x81, 0x62, 0xFE, 0x01, 0x8F], .andEvIv (.mem (.indexed .bpSi (.d8 0xFE))) 0x8F01),
      ([0x81, 0x2B, 0x34, 0x12], .subEvIv (.mem (.indexed .bpDi .absent)) 0x1234),
      ([0x81, 0xF6, 0xDC, 0xFE], .xorEvIv (.reg .si) 0xFEDC), ([0x81, 0xFD, 0x01, 0x8F], .cmpEvIv (.reg .bp) 0x8F01),
      ([0x82, 0x44, 0x7F, 0x7E], .addEbIb82 (.mem (.indexed .si (.d8 0x7F))) 0x7E),
      ([0x82, 0x17, 0xC3], .adcEbIb82 (.mem (.indexed .bx .absent)) 0xC3),
      ([0x82, 0x1E, 0xCD, 0xAB, 0x85], .sbbEbIb82 (.mem (.direct 0xABCD)) 0x85),
      ([0x82, 0xEB, 0x7E], .subEbIb82 (.reg .bl) 0x7E),
      ([0x82, 0x38, 0xC3], .cmpEbIb82 (.mem (.indexed .bxSi .absent)) 0xC3), ([0x82, 0xB1], .notUsed82 0xB1),
      ([0x83, 0x05, 0x7E], .addEvIs (.mem (.indexed .di .absent)) 0x7E),
      ([0x83, 0x91, 0x34, 0x92, 0xC3], .adcEvIs (.mem (.indexed .bxDi (.d16 0x9234))) 0xC3),
      ([0x83, 0x9E, 0x01, 0x80, 0x85], .sbbEvIs (.mem (.indexed .bp (.d16 0x8001))) 0x85),
      ([0x83, 0xAF, 0xFF, 0x00, 0x7E], .subEvIs (.mem (.indexed .bx (.d16 0x00FF))) 0x7E),
      ([0x83, 0x7A, 0xFE, 0xC3], .cmpEvIs (.mem (.indexed .bpSi (.d8 0xFE))) 0xC3), ([0x83, 0x89], .notUsed83 0x89),
      ([0x84, 0xE6], .testEbGb (.reg .dh) .ah), ([0x85, 0xFD], .testEvGv (.reg .bp) .di),
      ([0x86, 0x54, 0x7F], .xchgGbEb .dl (.mem (.indexed .si (.d8 0x7F)))),
      ([0x87, 0x2F], .xchgGvEv .bp (.mem (.indexed .bx .absent))),
      ([0x88, 0x06, 0xCD, 0xAB], .movEbGb (.mem (.direct 0xABCD)) .al), ([0x89, 0xDB], .movEvGv (.reg .bx) .bx),
      ([0x8A, 0x30], .movGbEb .dh (.mem (.indexed .bxSi .absent))),
      ([0x8B, 0x4E, 0x00], .movGvEv .cx (.mem (.indexed .bp (.d8 0)))),
      ([0x8C, 0x05], .movEvSeg (.mem (.indexed .di .absent)) .es), ([0x8C, 0xE1], .notUsed8C 0xE1),
      ([0x8D, 0x17], .lea .dx (.indexed .bx .absent)), ([0x8D, 0xDE], .refusedLea .bx .si),
      ([0x8E, 0x42, 0xFE], .movEsEv (.mem (.indexed .bpSi (.d8 0xFE)))), ([0x8E, 0xC8], .refusedMovCs 0xC8),
      ([0x8E, 0xD6], .movSsEv (.reg .si)), ([0x8E, 0xDD], .movDsEv (.reg .bp)), ([0x8E, 0xE1], .notUsed8E 0xE1),
      ([0x8F, 0x07], .popEv (.mem (.indexed .bx .absent))), ([0x8F, 0xA9], .notUsed8F 0xA9)] = true := by decide

/-- First bytes 90H to 9FH (spec/30_encoding.md R88 to R95). -/
theorem test_decode_row9 :
    decodes [([0x9A, 0xDC, 0xFE, 0x01, 0x8F], .callFar 0xFEDC 0x8F01), ([0x90], .nop), ([0x91], .xchgAxCx),
      ([0x92], .xchgAxDx), ([0x93], .xchgAxBx), ([0x94], .xchgAxSp), ([0x95], .xchgAxBp), ([0x96], .xchgAxSi),
      ([0x97], .xchgAxDi), ([0x98], .cbw), ([0x99], .cwd), ([0x9B], .wait), ([0x9C], .pushf), ([0x9D], .popf),
      ([0x9E], .sahf), ([0x9F], .lahf)] = true := by decide

/-- First bytes A0H to AFH (spec/30_encoding.md R88 to R95). -/
theorem test_decode_rowA :
    decodes [([0xA0, 0x01, 0x8F], .movAlMem 0x8F01), ([0xA1, 0x34, 0x12], .movAxMem 0x1234),
      ([0xA2, 0xDC, 0xFE], .movMemAl 0xFEDC), ([0xA3, 0x01, 0x8F], .movMemAx 0x8F01), ([0xA8, 0x7E], .testAlIb 0x7E),
      ([0xA9, 0xDC, 0xFE], .testAxIv 0xFEDC), ([0xA4], .movsb), ([0xA5], .movsw), ([0xA6], .cmpsb), ([0xA7], .cmpsw),
      ([0xAA], .stosb), ([0xAB], .stosw), ([0xAC], .lodsb), ([0xAD], .lodsw), ([0xAE], .scasb),
      ([0xAF], .scasw)] = true := by decide

/-- First bytes B0H to BFH (spec/30_encoding.md R88 to R95). -/
theorem test_decode_rowB :
    decodes [([0xB7, 0xA5], .movR8Ib .bh 0xA5), ([0xBA, 0x21, 0x43], .movR16Iv .dx 0x4321)] = true := by decide

/-- First bytes C0H to CFH (spec/30_encoding.md R88 to R95). -/
theorem test_decode_rowC :
    decodes [([0xC1], .notUsedC0 1), ([0xC2, 0x01, 0x8F], .retPop 0x8F01),
      ([0xC4, 0x30], .les .si (.indexed .bxSi .absent)), ([0xC4, 0xDE], .refusedLes .bx .si),
      ([0xC5, 0x27], .lds .sp (.indexed .bx .absent)), ([0xC5, 0xDE], .refusedLds .bx .si),
      ([0xC6, 0x00, 0xC3], .movEbIb (.mem (.indexed .bxSi .absent)) 0xC3), ([0xC6, 0xB9], .notUsedC6 0xB9),
      ([0xC7, 0x05, 0x34, 0x12], .movEvIv (.mem (.indexed .di .absent)) 0x1234), ([0xC7, 0x89], .notUsedC7 0x89),
      ([0xC9], .notUsedC8 1), ([0xCA, 0x34, 0x12], .retfPop 0x1234), ([0xCD, 0xC3], .intIb 0xC3), ([0xC3], .ret),
      ([0xCB], .retf), ([0xCC], .int3), ([0xCE], .into), ([0xCF], .iret)] = true := by decide

/-- First bytes D0H to DFH (spec/30_encoding.md R88 to R95). -/
theorem test_decode_rowD :
    decodes [([0xD0, 0x03], .rolEb1 (.mem (.indexed .bpDi .absent))), ([0xD0, 0xCE], .rorEb1 (.reg .dh)),
      ([0xD0, 0xD5], .rclEb1 (.reg .ch)), ([0xD0, 0x5C, 0x7F], .rcrEb1 (.mem (.indexed .si (.d8 0x7F)))),
      ([0xD0, 0x27], .shlEb1 (.mem (.indexed .bx .absent))),
      ([0xD0, 0x2E, 0xCD, 0xAB], .shrEb1 (.mem (.direct 0xABCD))), ([0xD0, 0xFB], .sarEb1 (.reg .bl)),
      ([0xD0, 0xB1], .notUsedD0 0xB1), ([0xD1, 0x46, 0x00], .rolEv1 (.mem (.indexed .bp (.d8 0)))),
      ([0xD1, 0x0D], .rorEv1 (.mem (.indexed .di .absent))),
      ([0xD1, 0x91, 0x34, 0x92], .rclEv1 (.mem (.indexed .bxDi (.d16 0x9234)))),
      ([0xD1, 0x9E, 0x01, 0x80], .rcrEv1 (.mem (.indexed .bp (.d16 0x8001)))),
      ([0xD1, 0xA7, 0xFF, 0x00], .shlEv1 (.mem (.indexed .bx (.d16 0x00FF)))),
      ([0xD1, 0x6A, 0xFE], .shrEv1 (.mem (.indexed .bpSi (.d8 0xFE)))),
      ([0xD1, 0x3B], .sarEv1 (.mem (.indexed .bpDi .absent))), ([0xD1, 0xB1], .notUsedD1 0xB1),
      ([0xD2, 0xC5], .rolEbCl (.reg .ch)), ([0xD2, 0x4C, 0x7F], .rorEbCl (.mem (.indexed .si (.d8 0x7F)))),
      ([0xD2, 0x17], .rclEbCl (.mem (.indexed .bx .absent))),
      ([0xD2, 0x1E, 0xCD, 0xAB], .rcrEbCl (.mem (.direct 0xABCD))), ([0xD2, 0xE3], .shlEbCl (.reg .bl)),
      ([0xD2, 0x28], .shrEbCl (.mem (.indexed .bxSi .absent))),
      ([0xD2, 0x7E, 0x00], .sarEbCl (.mem (.indexed .bp (.d8 0)))), ([0xD2, 0xB1], .notUsedD2 0xB1),
      ([0xD3, 0x81, 0x34, 0x92], .rolEvCl (.mem (.indexed .bxDi (.d16 0x9234)))),
      ([0xD3, 0x8E, 0x01, 0x80], .rorEvCl (.mem (.indexed .bp (.d16 0x8001)))),
      ([0xD3, 0x97, 0xFF, 0x00], .rclEvCl (.mem (.indexed .bx (.d16 0x00FF)))),
      ([0xD3, 0x5A, 0xFE], .rcrEvCl (.mem (.indexed .bpSi (.d8 0xFE)))),
      ([0xD3, 0x23], .shlEvCl (.mem (.indexed .bpDi .absent))), ([0xD3, 0xEE], .shrEvCl (.reg .si)),
      ([0xD3, 0xFD], .sarEvCl (.reg .bp)), ([0xD3, 0xB1], .notUsedD3 0xB1), ([0xD4, 0x0B], .refusedAam 0x0B),
      ([0xD5, 0x0B], .refusedAad 0x0B), ([0xDA, 0xE0], .esc 2 4 (.reg .ax)), ([0xD4, 0x0A], .aam),
      ([0xD5, 0x0A], .aad), ([0xD6], .notUsedD6), ([0xD7], .xlat)] = true := by decide

/-- First bytes E0H to EFH (spec/30_encoding.md R88 to R95). -/
theorem test_decode_rowE :
    decodes [([0xE0, 0xC3], .loopne 0xC3), ([0xE1, 0x85], .loope 0x85), ([0xE2, 0x7E], .loop 0x7E),
      ([0xE3, 0xC3], .jcxz 0xC3), ([0xE4, 0x85], .inAlIb 0x85), ([0xE5, 0x7E], .inAxIb 0x7E),
      ([0xE6, 0xC3], .outIbAl 0xC3), ([0xE7, 0x85], .outIbAx 0x85), ([0xE8, 0x34, 0x12], .callNear 0x1234),
      ([0xE9, 0xDC, 0xFE], .jmpNear 0xFEDC), ([0xEA, 0x01, 0x8F, 0x34, 0x12], .jmpFar 0x8F01 0x1234),
      ([0xEB, 0x7E], .jmpShort 0x7E), ([0xEC], .inAlDx), ([0xED], .inAxDx), ([0xEE], .outDxAl),
      ([0xEF], .outDxAx)] = true := by decide

/-- First bytes F0H to FFH (spec/30_encoding.md R88 to R95). -/
theorem test_decode_rowF :
    decodes [([0xF6, 0x06, 0xCD, 0xAB, 0xC3], .testEbIb (.mem (.direct 0xABCD)) 0xC3),
      ([0xF6, 0x89], .notUsedF6 0x89), ([0xF6, 0x10], .notEb (.mem (.indexed .bxSi .absent))),
      ([0xF6, 0x5E, 0x00], .negEb (.mem (.indexed .bp (.d8 0)))),
      ([0xF6, 0x25], .mulEb (.mem (.indexed .di .absent))),
      ([0xF6, 0xA9, 0x34, 0x92], .imulEb (.mem (.indexed .bxDi (.d16 0x9234)))),
      ([0xF6, 0xB6, 0x01, 0x80], .divEb (.mem (.indexed .bp (.d16 0x8001)))),
      ([0xF6, 0xBF, 0xFF, 0x00], .idivEb (.mem (.indexed .bx (.d16 0x00FF)))),
      ([0xF7, 0x42, 0xFE, 0x34, 0x12], .testEvIv (.mem (.indexed .bpSi (.d8 0xFE))) 0x1234),
      ([0xF7, 0x89], .notUsedF7 0x89), ([0xF7, 0xD6], .notEv (.reg .si)), ([0xF7, 0xDD], .negEv (.reg .bp)),
      ([0xF7, 0x64, 0x7F], .mulEv (.mem (.indexed .si (.d8 0x7F)))),
      ([0xF7, 0x2F], .imulEv (.mem (.indexed .bx .absent))),
      ([0xF7, 0x36, 0xCD, 0xAB], .divEv (.mem (.direct 0xABCD))), ([0xF7, 0xFB], .idivEv (.reg .bx)),
      ([0xFE, 0x00], .incEb (.mem (.indexed .bxSi .absent))),
      ([0xFE, 0x4E, 0x00], .decEb (.mem (.indexed .bp (.d8 0)))), ([0xFE, 0x91], .notUsedFE 0x91),
      ([0xFF, 0x81, 0x34, 0x92], .incEv (.mem (.indexed .bxDi (.d16 0x9234)))),
      ([0xFF, 0x8E, 0x01, 0x80], .decEv (.mem (.indexed .bp (.d16 0x8001)))),
      ([0xFF, 0x97, 0xFF, 0x00], .callEv (.mem (.indexed .bx (.d16 0x00FF)))),
      ([0xFF, 0x5E, 0x00], .callMem32 (.indexed .bp (.d8 0))), ([0xFF, 0xDA], .refusedCallMem32 .dx),
      ([0xFF, 0xE6], .jmpEv (.reg .si)), ([0xFF, 0x2D], .jmpMem32 (.indexed .di .absent)),
      ([0xFF, 0xEA], .refusedJmpMem32 .dx), ([0xFF, 0x37], .pushEv (.mem (.indexed .bx .absent))),
      ([0xFF, 0xB9], .notUsedFF 0xB9), ([0xF0], .lock), ([0xF1], .notUsedF1), ([0xF2], .repne), ([0xF3], .rep),
      ([0xF4], .hlt), ([0xF5], .cmc), ([0xF8], .clc), ([0xF9], .stc), ([0xFA], .cli), ([0xFB], .sti), ([0xFC], .cld),
      ([0xFD], .std)] = true := by decide
/-- The number of a table row has its first byte on top (log 17). -/
theorem test_decodeTableWord :
    decodeTableWord 8 0x90 = some .nop ∧ decodeTableWord 16 0xD40A = some .aam ∧
      decodeTableWord 16 0x80D8 = some (.sbbEbIb (.reg .al) 0) ∧ decodeTableWord 8 0xB8 = some (.movR16Iv .ax 0) := by
  decide

/-! ## Single steps (spec/95_test_vectors.md) -/

/-- The start state of the vectors (spec/95_test_vectors.md section 1) with the instruction's bytes at 1000H:0100H, and
with the segments and the stack pointer that most vectors set. -/
def start (bytes : List Byte) : State :=
  { State.reset with
    cs := 0x1000, ip := 0x0100, ss := 0x3000, sp := 0x0100, ds := 0x2000, es := 0x4000
    pins := { State.reset.pins with testLow := true } }.placeBytes 0 bytes

/-- Bytes at a physical address. -/
def put (s : State) (a : Nat) (bytes : List Byte) : State :=
  { s with mem := Memory.writeAll s.params s.mem (bytes.mapIdx fun k b => (a + k, b)) }

/-- Bytes read at a physical address. -/
def bytesAt (s : State) (a n : Nat) : List Byte := (List.range n).map fun k => Memory.read s.mem (a + k)

/-- The vectors 0, 1, 2, 4 and 20H of the fixture VT. -/
def vt (s : State) : State :=
  put (put s 0 [0x00, 0x01, 0x00, 0x02, 0x00, 0x07, 0x00, 0x70, 0x00, 0x05, 0x00, 0x60]) 0x10
    [0x40, 0x00, 0x00, 0x04] |> (put · 0x80 [0x34, 0x12, 0x00, 0x50])

/-- What a step leaves, seen through `f`. -/
def after {α : Type} (s : State) (f : State → α) : Option α :=
  match step s with
  | .next t => some (f t)
  | _ => none

/-- OF SF ZF AF PF CF. -/
def six (t : State) : List Bool := [t.flags.oF, t.flags.sF, t.flags.zF, t.flags.aF, t.flags.pF, t.flags.cF]

/-- OF SF ZF PF CF, after an instruction that leaves AF undefined. -/
def five (t : State) : List Bool := [t.flags.oF, t.flags.sF, t.flags.zF, t.flags.pF, t.flags.cF]

/-- CS, IP and SP. -/
def place (t : State) : List Word := [t.cs, t.ip, t.sp]

/-! ### Data transfer -/

theorem test_T3_mov_high_byte : after { start [0x88, 0xE1] with ax := 0x1234, cx := 0xFFFF } (·.cx) = some 0xFF12 := by
  decide

theorem test_T5_mov_bp_is_in_ss :
    after (put { start [0x8B, 0x43, 0xFE] with bp := 0x0100, di := 0x0010 } 0x3010E [0x34, 0x12]) (·.ax) =
      some 0x1234 := by decide

theorem test_T13_word_wraps_at_top_of_memory :
    after (put (put { start [0xA1, 0x0F, 0x00] with ds := 0xFFFF } 0xFFFFF [0x34]) 0 [0x12]) (·.ax) = some 0x1234 := by
  decide

theorem test_T29_last_override_wins :
    after (put (put { start [0x26, 0x26, 0x2E, 0x8A, 0x07] with bx := 0x0010 } 0x10010 [0xCC]) 0x40010 [0xEE])
      (fun t => (t.reg8 .al, t.ip)) = some (0xCC, 0x0105) := by decide

theorem test_V3_push_straddles_the_segment_end :
    after { start [0x50] with sp := 0x0001, ax := 0x1234 }
      (fun t => (t.sp, bytesAt t 0x3FFFF 1, bytesAt t 0x30000 1)) = some (0xFFFF, [0x34], [0x12]) := by decide

theorem test_push_sp_stores_the_lowered_sp :
    after (start [0x54]) (fun t => (t.sp, bytesAt t 0x300FE 2)) = some (0x00FE, [0xFE, 0x00]) := by decide

theorem test_V9_pop_sp : after (put (start [0x5C]) 0x30100 [0x00, 0x20]) (·.sp) = some 0x2000 := by decide

theorem test_V17_xchg_memory :
    after (put { start [0x86, 0x0F] with bx := 0x0010, cx := 0x0033 } 0x20010 [0x77])
      (fun t => (t.cx, bytesAt t 0x20010 1)) = some (0x0077, [0x33]) := by decide

theorem test_V21_xlat_wraps :
    after (put { start [0xD7] with bx := 0xFFFF, ax := 2 } 0x20001 [0x99]) (·.ax) = some 0x0099 := by decide

theorem test_V27_les :
    after (put { start [0xC4, 0x7F, 0x02] with bx := 0x0010 } 0x20012 [0xCD, 0xAB, 0x00, 0x60])
      (fun t => (t.di, t.es, t.ds)) = some (0xABCD, 0x6000, 0x2000) := by decide

theorem test_V29_lahf :
    after { start [0x9F] with
      flags := { Flags.clear with sF := true, zF := true, aF := true, pF := true, cF := true, oF := true, dF := true } }
      (·.ax) = some 0xD700 := by decide

theorem test_V35_pushf :
    after { start [0x9C] with
      flags := { Flags.clear with
        sF := true, zF := true, aF := true, pF := true, cF := true, oF := true, dF := true, iF := true } }
      (bytesAt · 0x300FE 2) = some [0xD7, 0xFE] := by decide

theorem test_V39_popf :
    after (put (start [0x9D]) 0x30100 [0x41, 0x02]) (·.flags) =
      some { Flags.clear with iF := true, zF := true, cF := true } := by decide

theorem test_V41_in_word :
    after { start [0xE5, 0x40] with ax := 0xFFFF, ioIn := [0x5A, 0xA5] } (fun t => (t.ax, t.trace)) =
      some (0xA55A, [.ioRead16 0x0040 0xA55A]) := by decide

theorem test_out_word_at_an_odd_port :
    after { start [0xEF] with ax := 0x1234, dx := 0xFFFF } (·.trace) =
      some [.ioWrite8 0x0000 0x12, .ioWrite8 0xFFFF 0x34] := by decide

/-! ### Arithmetic -/

theorem test_A1_add :
    after { start [0x00, 0xD8] with ax := 0x00FF, bx := 0x0001 } (fun t => (t.ax, six t)) =
      some (0x0000, [false, false, true, true, true, true]) := by decide

theorem test_A9_add_sign_extends :
    after { start [0x83, 0xC3, 0xFF] with bx := 1 } (fun t => (t.bx, six t)) =
      some (0, [false, false, true, true, true, true]) := by decide

theorem test_A13_adc :
    after { start [0x11, 0xD8] with ax := 0xFFFF, flags := { Flags.clear with cF := true } }
      (fun t => (t.ax, six t)) = some (0, [false, false, true, true, true, true]) := by decide

theorem test_A21_sbb :
    after { start [0x18, 0xD8] with ax := 0x80, bx := 0x7F, flags := { Flags.clear with cF := true } }
      (fun t => (t.ax, six t)) = some (0, [true, false, true, true, true, false]) := by decide

theorem test_A25_cmp_order :
    after { start [0x3B, 0xD8] with ax := 0x8000, bx := 1 } (fun t => (t.bx, six t)) =
      some (1, [true, true, false, false, false, true]) := by decide

theorem test_A33_dec_keeps_carry :
    after { start [0x48] with ax := 0x8000, flags := { Flags.clear with cF := true } } (fun t => (t.ax, six t)) =
      some (0x7FFF, [true, false, false, true, true, true]) := by decide

theorem test_A37_neg :
    after { start [0xF6, 0xD8] with ax := 0x80 } (fun t => (t.ax, six t)) =
      some (0x80, [true, true, false, false, false, true]) := by decide

theorem test_A43_inc_memory :
    after (put { start [0xFF, 0x07] with bx := 0x0010 } 0x20010 [0xFF, 0x00]) (bytesAt · 0x20010 2) =
      some [0x00, 0x01] := by decide

theorem test_B5_aaa :
    after { start [0x37] with ax := 0x00FA } (fun t => (t.ax, t.flags.aF, t.flags.cF)) = some (0x0100, true, true) := by
  decide

theorem test_B11_daa :
    after { start [0x27] with ax := 0x12, flags := { Flags.clear with aF := true, cF := true } }
      (fun t => (t.ax, (six t).drop 1)) = some (0x78, [false, false, true, true, true]) := by decide

theorem test_B17_das :
    after { start [0x2F] with ax := 0x9A } (fun t => (t.ax, (six t).drop 1)) =
      some (0x34, [false, false, true, false, true]) := by decide

theorem test_B19_aam : after { start [0xD4, 0x0A] with ax := 0x12FF } (·.ax) = some 0x1905 := by decide

theorem test_B23_aad : after { start [0xD5, 0x0A] with ax := 0x1A00 } (·.ax) = some 0x0004 := by decide

theorem test_M1_mul :
    after { start [0xF6, 0xE3] with ax := 0x5510, bx := 0x10 } (fun t => (t.ax, t.flags.oF, t.flags.cF)) =
      some (0x0100, true, true) := by decide

theorem test_M10_imul_does_not_fit :
    after { start [0xF6, 0xE9] with ax := 0x40, cx := 2 } (fun t => (t.ax, t.flags.oF, t.flags.cF)) =
      some (0x0080, true, true) := by decide

theorem test_M22_idiv_truncates : after { start [0xF6, 0xFB] with ax := 0xFFF9, bx := 2 } (·.ax) = some 0xFFFD := by
  decide

theorem test_M18_divide_error :
    after (vt { start [0xF6, 0xF1] with ax := 0x1234 }) (fun t => (t.ax, place t)) =
      some (0x1234, [0x0200, 0x0100, 0x00FA]) := by decide

/-! ### Logic, shifts and rotates -/

theorem test_L4_and :
    after { start [0x25, 0x00, 0x80] with ax := 0xFFFF, flags := { Flags.clear with cF := true, oF := true } }
      (fun t => (t.ax, five t)) = some (0x8000, [false, true, false, true, false]) := by decide

theorem test_S8_shift_by_0 :
    after { start [0xD3, 0xE0] with ax := 0x8001, flags := { Flags.clear with cF := true, oF := true, zF := true } }
      (fun t => (t.ax, six t)) = some (0x8001, [true, false, true, false, false, true]) := by decide

theorem test_S10_shift_past_the_width :
    after { start [0xD2, 0xE3] with bx := 0x81, cx := 9 } (fun t => (t.bx, (five t).drop 1)) =
      some (0x00, [false, true, true, false]) := by decide

theorem test_S20_sar_by_32 :
    after { start [0xD3, 0xF8] with ax := 0x8000, cx := 0x20 } (fun t => (t.ax, (five t).drop 1)) =
      some (0xFFFF, [true, false, true, true]) := by decide

theorem test_S34_rcl :
    after { start [0xD3, 0xD0] with ax := 0x8000, cx := 2, flags := { Flags.clear with cF := true } }
      (fun t => (t.ax, t.flags.cF)) = some (0x0003, false) := by decide

theorem test_S36_rcr :
    after { start [0xD0, 0xD8] with flags := { Flags.clear with cF := true } } (fun t => (t.ax, six t)) =
      some (0x80, [true, false, false, false, false, false]) := by decide

/-! ### Strings -/

theorem test_G8_rep_movsw_down :
    after (put { start [0xF3, 0xA5] with
      es := 0x2000, si := 0x14, di := 0x16, cx := 3, flags := { Flags.clear with dF := true } } 0x20010
      [1, 2, 3, 4, 5, 6]) (fun t => (t.si, t.di, t.cx, bytesAt t 0x20010 8)) =
      some (0x0E, 0x10, 0, [1, 2, 1, 2, 3, 4, 5, 6]) := by decide

theorem test_G12_repe_cmpsb :
    after (put (put { start [0xF3, 0xA6] with si := 0x10, di := 0x20, cx := 4 } 0x20010 [1, 2, 3, 4]) 0x40020
      [1, 2, 9, 4]) (fun t => (t.si, t.di, t.cx, six t)) =
      some (0x13, 0x23, 1, [false, true, false, true, true, true]) := by decide

theorem test_G32_rep_interrupted :
    after (vt (put { start [0x2E, 0xF3, 0xA4] with si := 0x10, di := 0x20, cx := 3, nmiPending := true } 0x10010
      [1, 2, 3, 4])) (fun t => (t.si, t.di, t.cx, place t, bytesAt t 0x300FA 2)) =
      some (0x11, 0x21, 2, [0x6000, 0x0500, 0x00FA], [0x01, 0x01]) := by decide

/-! ### Control transfer -/

theorem test_J6_call_sp :
    after (start [0xFF, 0xD4]) (fun t => (place t, bytesAt t 0x300FE 2)) =
      some ([0x1000, 0x0100, 0x00FE], [0x02, 0x01]) := by decide

theorem test_J8_call_far :
    after (put { start [0xFF, 0x1F] with bx := 0x0010 } 0x20010 [0x78, 0x56, 0x00, 0x60])
      (fun t => (place t, bytesAt t 0x300FC 4)) =
      some ([0x6000, 0x5678, 0x00FC], [0x02, 0x01, 0x00, 0x10]) := by decide

theorem test_J14_ret_far :
    after (put (start [0xCA, 0x02, 0x00]) 0x30100 [0x34, 0x12, 0x00, 0x50]) place =
      some [0x5000, 0x1234, 0x0106] := by decide

theorem test_K8_loop_from_0 : after (start [0xE2, 0xFC]) (fun t => (t.cx, t.ip)) = some (0xFFFF, 0x00FE) := by decide

theorem test_I1_int :
    after (vt { start [0xCD, 0x20] with flags := { Flags.clear with iF := true, zF := true, cF := true } })
      (fun t => (place t, bytesAt t 0x300FA 6, t.flags)) =
      some ([0x5000, 0x1234, 0x00FA], [0x02, 0x01, 0x00, 0x10, 0x43, 0xF2],
        { Flags.clear with zF := true, cF := true }) := by decide

theorem test_I7_iret :
    after (put { start [0xCF] with sp := 0x00FA } 0x300FA [0x02, 0x01, 0x00, 0x10, 0x43, 0xF2])
      (fun t => (place t, t.flags)) =
      some ([0x1000, 0x0102, 0x0100], { Flags.clear with iF := true, zF := true, cF := true }) := by decide

/-! ### Processor control and interrupts -/

theorem test_Q15_esc_reads :
    after (start [0xDB, 0x06, 0x34, 0x12]) (fun t => (t.ip, t.trace)) = some (0x0104, [.dummyRead16 0x21234]) := by
  decide

theorem test_X6_nmi_then_trap :
    after (vt { start [0x90] with nmiPending := true, flags := { Flags.clear with tF := true } })
      (fun t => (place t, bytesAt t 0x300F4 12)) =
      some ([0x7000, 0x0700, 0x00F4],
        [0x00, 0x05, 0x00, 0x60, 0x02, 0xF0, 0x01, 0x01, 0x00, 0x10, 0x02, 0xF1]) := by decide

theorem test_X14_mov_ss_holds_off :
    after { start [0x8E, 0xD0] with ax := 0x3800, nmiPending := true } (fun t => (t.ss, place t, t.nmiPending)) =
      some (0x3800, [0x1000, 0x0102, 0x0100], true) := by decide

theorem test_X30_hlt_is_trapped :
    after (vt { start [0xF4] with flags := { Flags.clear with tF := true } }) (fun t => (place t, t.run)) =
      some ([0x7000, 0x0700, 0x00FA], .running) := by decide

theorem test_X32_wait_waits :
    after { start [0x9B] with pins := State.reset.pins } (fun t => (t.ip, t.run)) = some (0x0100, .waiting 0x0101) := by
  decide

/-- The refusal that a step ends in. -/
def refusal (s : State) : Option Refusal :=
  match step s with
  | .refused r => some r
  | _ => none

/-- Vectors Q25, S22, T27, V25 and B21: refused by name, not executed. -/
theorem test_reserved_encodings_are_refused :
    [[0xD6], [0xD0, 0xF0], [0x8E, 0xC8], [0x8D, 0xC0], [0xD4, 0x10]].map (fun b => refusal (start b)) =
      [some .notUsed, some .notUsed, some .movToCs, some .memoryOperandMissing, some .secondByteNot0A] := by decide

/-- A table row's number is placed so that the next step from reset runs it (log 6). -/
theorem test_withFetchWord :
    after (State.reset.withFetchWord 16 0xB07F) (fun t => (t.ax, t.ip)) = some (0x007F, 0x0002) ∧
      after (State.reset.withFetchWord 8 0x40) (fun t => (t.ax, t.ip)) = some (1, 1) := by decide

/-- A state in which nothing outside the CPU happens. -/
def calm : State := start []

/-- `calm` with ROM in one 64K block of its memory map, a device in the next and nothing in the one after. -/
def mapped : State :=
  { calm with params := { calm.params with
      map := [{ first := 0x50000, last := 0x5FFFF, kind := .rom }, { first := 0x60000, last := 0x6FFFF, kind := .device },
        { first := 0x70000, last := 0x7FFFF, kind := .nothing }] } }

/-- R312: an NMI edge listed after RESET goes low is pending when the CPU runs; one listed before it is lost. -/
theorem test_nmi_edge_around_the_end_of_reset :
    [[PinEvent.reset false, .nmiEdge], [.nmiEdge, .reset false]].map (fun es => after { start [0x90] with
      run := .inReset, pins := { State.reset.pins with reset := true }, outside := [es] }
      (fun t => (t.run, t.nmiPending))) = [some (.running, true), some (.running, false)] := by decide

/-- R291: an NMI that comes in the last of several repetitions of REP STOSB is taken there, behind the instruction. -/
theorem test_nmi_in_the_last_repetition :
    after { vt { start [0xF3, 0xAA] with cx := 2 } with outside := [[], [], [.nmiEdge]] }
      (fun t => (t.cx, place t, bytesAt t 0x300FA 2)) = some (0, [0x6000, 0x0500, 0x00FA], [0x02, 0x01]) := by decide

/-- R62, R279: HOLD and an NMI that come in a locked instruction; the bus is given up first, then the NMI is taken. -/
theorem test_hold_before_interrupt :
    (let s := { vt (start [0xF0, 0x90]) with
        params := { State.reset.params with busMode := .maximum }
        outside := [[], [.rq .gt0 true, .nmiEdge], [], [.rq .gt0 false]] };
      ((after s id).bind (after · id)).bind fun t =>
        after t fun u => (t.busReleased, t.trace, u.busReleased, place u)) =
      some (some (.line .gt0), [.grant .gt0, .lockPin false, .lockPin true], none, [0x6000, 0x0500, 0x00FA]) := by
  decide

/-- R63: MOV [1234H], AL into ROM, a device and nothing. -/
theorem test_stores_outside_ram :
    [0x5000, 0x6000, 0x7000].map (fun ds => after { mapped.placeBytes 0 [0xA2, 0x34, 0x12] with ds := ds, ax := 0x5A }
      (fun t => (t.mem == (mapped.placeBytes 0 [0xA2, 0x34, 0x12]).mem, t.trace))) =
      [some (true, []), some (true, [.memWrite8 0x61234 0x5A]), some (true, [])] := by decide

/-- R54: MOV [1234H], AX and MOV [1235H], AX into a device: one cycle at the even address of an 8086, else two. -/
theorem test_words_to_a_device :
    [(Variant.i8086, 0x34), (.i8086, 0x35), (.i8088, 0x34)].map (fun q : Variant × Byte =>
      after { mapped.placeBytes 0 [0xA3, q.2, 0x12] with
        ds := 0x6000, ax := 0x5AA5, params := { mapped.params with variant := q.1 } } (fun t => t.trace)) =
      [some [.memWrite16 0x61234 0x5AA5], some [.memWrite8 0x61236 0x5A, .memWrite8 0x61235 0xA5],
        some [.memWrite8 0x61235 0x5A, .memWrite8 0x61234 0xA5]] := by decide

/-- R57, R54, R333: four instruction bytes from an odd address of a device, on an 8086 and on an 8088. -/
theorem test_fetches_from_a_device :
    [Variant.i8086, .i8088].map (fun v => { mapped.params with variant := v }.fetchCycles 0x6000 1 4) =
      [[.fetch8 0x60001, .fetch16 0x60002, .fetch8 0x60004],
        [.fetch8 0x60001, .fetch8 0x60002, .fetch8 0x60003, .fetch8 0x60004]] := by decide

/-- R62: RQ*/GT1* gives the bus back and asks again while RQ*/GT0* is waiting, which is then the one to get it. -/
theorem test_gt0_before_a_second_request_of_gt1 :
    after { calm with
      params := { calm.params with busMode := .maximum }
      busReleased := some (.line .gt1)
      pins := { calm.pins with rq0 := true, rq1 := true }
      outside := [[.rq .gt1 false, .rq .gt1 true]] } (fun t => (t.busReleased, t.trace)) =
      some (some (.line .gt0), [.grant .gt0]) := by decide

/-- R259: a low pulse of TEST* while the bus is released ends a WAIT; an NMI that is there waits for the bus. -/
theorem test_wait_ends_in_a_hold :
    (let s := { calm with run := .waiting 0x0101, nmiPending := true, pins := { State.reset.pins with hold := true }
                          outside := [[.test true], [.test false, .hold false]] };
      (after s id).bind fun t => after (vt t) fun u =>
        ((t.run, t.ip, t.busReleased), (u.busReleased, place u, bytesAt u 0x300FA 2))) =
      some ((.running, 0x0101, some .hold), (none, [0x6000, 0x0500, 0x00FA], [0x01, 0x01])) := by decide

/-- R312: HOLD is high when RESET ends, and the other master changes the byte at FFFF0H, which is then fetched. -/
theorem test_hold_at_the_end_of_reset :
    (let s := { State.reset with run := .inReset, outside := [[.hold true], [], [.hold false]]
                                 masters := [[], [(0xFFFF0, 0xFB)]] };
      ((after s id).bind fun t => after t id).bind fun t => after t fun u =>
        (t.busReleased, t.queue, u.flags.iF, u.ip)) = some (some .hold, [], true, 1) := by decide

/-- R312: both request lines are pending when RESET ends; RQ*/GT0* gives the bus back, and what RQ*/GT1* then writes at
FFFF0H is what is fetched. -/
theorem test_both_request_lines_at_the_end_of_reset :
    (let s := { State.reset with
        run := .inReset, params := { State.reset.params with busMode := .maximum }
        outside := [[.rq .gt0 true, .rq .gt1 true], [], [.rq .gt0 false], [], [.rq .gt1 false]]
        masters := [[], [], [], [(0xFFFF0, 0xFB)]] };
      (((after s id).bind (after · id)).bind (after · id)).bind fun t => (after t id).bind fun u => after u fun v =>
        ((t.busReleased, t.beforeFetch, u.queue), (v.flags.iF, v.ip))) =
      some ((some (.line .gt1), [.line .gt1], []), (true, 1)) := by decide

/-- R281: INTR behind a NOP, and in a locked HLT that idles, in maximum mode: LOCK* is active during the INTA pair. -/
theorem test_lock_pin_around_inta :
    [{ start [0x90] with lock := false, run := .running }, { start [0x90] with lock := true, run := .halted }].map
      (fun s => after { vt s with
        params := { State.reset.params with busMode := .maximum }, flags := { Flags.clear with iF := true }
        pins := { State.reset.pins with intrLine := true, intrType := 0x20 } } (fun t => (t.lock, t.trace))) =
      [some (false, [.lockPin false, .inta 0x20, .lockPin true]), some (false, [.lockPin false, .inta 0x20])] := by
  decide

/-- R315: RESET comes while HLDA is high, and while LOCK* is active. -/
theorem test_reset_drives_hlda_and_lock_inactive :
    [{ calm with busReleased := some .hold, pins := { calm.pins with hold := true, reset := true } },
      { calm with lock := true, params := { calm.params with busMode := .maximum },
                  pins := { calm.pins with reset := true } }].map (fun s => after s (fun t =>
        (t.run, t.busReleased, t.lock, t.trace))) =
      [some (.inReset, none, false, [.hlda false]), some (.inReset, none, false, [.lockPin false])] := by decide

/-! ## Witnesses

For every statement of Certificates/Slice0/Obligations.lean that has hypotheses: states and operands that meet them
together, for each clause, at the ends of its range. -/

/-- A locked state with another master waiting for the bus. -/
def lockedBus : State := { calm with lock := true, masters := [[(0x20010, 0x55)]] }

/-- `calm` with a repeat prefix in force. -/
def repeating (z : Bool) (cx : Word) : State := { calm with cx := cx, cur := { Progress.idle with rep := some z } }

/-- `calm` is undisturbed, and so is a locked state in which another master waits. -/
theorem witness_undisturbed : calm.undisturbed ∧ lockedBus.undisturbed := ⟨.inr rfl, .inl rfl⟩

theorem witness_AddAndAdcGiveTheSum : calm.undisturbed := .inr rfl

theorem witness_SubAndSbbGiveTheDifference : calm.undisturbed := .inr rfl

theorem witness_IncAndDecKeepCarry : calm.undisturbed := .inr rfl

theorem witness_NegateGivesTwosComplement : calm.undisturbed := .inr rfl

/-- AL = 9 is not adjusted; AL = 0AH is, and AL = 0 with AF = 1 is. -/
theorem witness_AsciiAdjustOfSumAndDifference :
    [({ calm with ax := 9 } : State), { calm with ax := 0xA },
      { calm with flags := { Flags.clear with aF := true } }].map (fun s =>
        decide (9 < (s.reg8 .al).toNat % 16 ∨ s.flags.aF = true)) = [false, true, true] := by decide

/-- AL = 99H is not adjusted in either nibble; 9AH is in both, and 0 is by AF and CF. -/
theorem witness_DecimalAdjustOfSumAndDifference :
    [({ calm with ax := 0x99 } : State), { calm with ax := 0x9A },
      { calm with flags := { Flags.clear with aF := true, cF := true } }].map (fun s =>
        (decide (9 < (s.reg8 .al).toNat % 16 ∨ s.flags.aF = true),
          decide (0x99 < (s.reg8 .al).toNat ∨ s.flags.cF = true))) = [(false, false), (true, true), (true, true)] := by
  decide

/-- 99 and 99, and 0 and 0. -/
theorem witness_PackedDecimalAddition :
    [(0x99, 0x99), (0, 0)].map (fun p : Word × Byte =>
      let al := { calm with ax := p.1 }.reg8 .al
      decide (al.toNat % 16 ≤ 9 ∧ al.toNat / 16 ≤ 9 ∧ p.2.toNat % 16 ≤ 9 ∧ p.2.toNat / 16 ≤ 9)) = [true, true] := by
  decide

/-- The greatest and the least quotient, for bytes and for words. -/
theorem witness_UnsignedDivisionGivesQuotientAndRemainder :
    (∀ p ∈ ([(0xFEFF, 0xFF, 0xFF, 0xFE), (0, 1, 0, 0)] : List (Word × Word × Nat × Nat)),
      let s := { calm with ax := p.1, bx := p.2.1 }
      s.ax.toNat = p.2.2.1 * (s.readEb (.reg .bl)).toNat + p.2.2.2 ∧ p.2.2.2 < (s.readEb (.reg .bl)).toNat ∧
        p.2.2.1 ≤ 0xFF) ∧
    (∀ p ∈ ([(0xFFFE, 0xFFFF, 0xFFFF, 0xFFFF, 0xFFFE), (0, 0, 1, 0, 0)] : List (Word × Word × Word × Nat × Nat)),
      let s := { calm with dx := p.1, ax := p.2.1, bx := p.2.2.1 }
      (s.dx ++ s.ax).toNat = p.2.2.2.1 * (s.readEv (.reg .bx)).toNat + p.2.2.2.2 ∧
        p.2.2.2.2 < (s.readEv (.reg .bx)).toNat ∧ p.2.2.2.1 ≤ 0xFFFF) := by decide

/-- 255 / 2, −255 / 2, −127 / 1 for bytes, and 65535 / 2, −65535 / 2 for words. -/
theorem witness_SignedDivisionGivesQuotientAndRemainder :
    (∀ p ∈ ([(0x00FF, 2, 127, 1), (0xFF01, 2, -127, -1), (0xFF81, 1, -127, 0)] : List (Word × Word × Int × Int)),
      let s := { calm with ax := p.1, bx := p.2.1 }
      s.ax.toInt = p.2.2.1 * (s.readEb (.reg .bl)).toInt + p.2.2.2 ∧
        p.2.2.2.natAbs < (s.readEb (.reg .bl)).toInt.natAbs ∧ (p.2.2.2 = 0 ∨ (0 < p.2.2.2 ↔ 0 < s.ax.toInt)) ∧
        -127 ≤ p.2.2.1 ∧ p.2.2.1 ≤ 127) ∧
    (∀ p ∈ ([(0, 0xFFFF, 2, 32767, 1), (0xFFFF, 1, 2, -32767, -1)] : List (Word × Word × Word × Int × Int)),
      let s := { calm with dx := p.1, ax := p.2.1, bx := p.2.2.1 }
      (s.dx ++ s.ax).toInt = p.2.2.2.1 * (s.readEv (.reg .bx)).toInt + p.2.2.2.2 ∧
        p.2.2.2.2.natAbs < (s.readEv (.reg .bx)).toInt.natAbs ∧
        (p.2.2.2.2 = 0 ∨ (0 < p.2.2.2.2 ↔ 0 < (s.dx ++ s.ax).toInt)) ∧
        -32767 ≤ p.2.2.2.1 ∧ p.2.2.2.1 ≤ 32767) := by decide

/-- For each of the four instructions a divisor of 0, and the least quotient that is too large (for IDIV of either
sign). -/
theorem witness_DivideErrorEntersTypeZero :
    calm.undisturbed ∧ ({ calm with ax := 0x100, bx := 1 } : State).undisturbed ∧
      (calm.readEb (.reg .bl)).toNat = 0 ∧ (calm.readEv (.reg .bx)).toNat = 0 ∧ (calm.readEb (.reg .bl)).toInt = 0 ∧
      (calm.readEv (.reg .bx)).toInt = 0 ∧
      (let s := { calm with ax := 0x100, bx := 1 }; 0xFF < s.ax.toNat / (s.readEb (.reg .bl)).toNat) ∧
      (let s := { calm with dx := 1, bx := 1 }; 0xFFFF < (s.dx ++ s.ax).toNat / (s.readEv (.reg .bx)).toNat) ∧
      (let s := { calm with ax := 0x0080, bx := 1 }; s.ax.toInt.tdiv (s.readEb (.reg .bl)).toInt = 128) ∧
      (let s := { calm with ax := 0xFF80, bx := 1 }; s.ax.toInt.tdiv (s.readEb (.reg .bl)).toInt = -128) ∧
      (let s := { calm with dx := 0, ax := 0x8000, bx := 1 };
        (s.dx ++ s.ax).toInt.tdiv (s.readEv (.reg .bx)).toInt = 32768) ∧
      (let s := { calm with dx := 0xFFFF, ax := 0x8000, bx := 1 };
        (s.dx ++ s.ax).toInt.tdiv (s.readEv (.reg .bx)).toInt = -32768) :=
  ⟨.inr rfl, .inr rfl, by decide, by decide, by decide, by decide, by decide, by decide,
    by decide, by decide, by decide, by decide⟩

theorem witness_LogicGivesTheBitwiseResult : calm.undisturbed := .inr rfl

/-- Counts of 0, 1, the width and 255 in CL. -/
theorem witness_ShiftsByAnyCount :
    ∀ n ∈ ([0, 1, 16, 255] : List Nat), let s := { calm with cx := BitVec.ofNat 16 n }
      s.undisturbed ∧ (s.reg8 .cl).toNat = n := by
  intro n h
  refine ⟨.inr rfl, ?_⟩
  revert n
  decide

theorem witness_RotatesByAnyCount :
    ∀ n ∈ ([0, 1, 16, 255] : List Nat), let s := { calm with cx := BitVec.ofNat 16 n }
      s.undisturbed ∧ (s.reg8 .cl).toNat = n := witness_ShiftsByAnyCount

theorem witness_PushStoresTheSource : calm.undisturbed := .inr rfl

/-- POP CX and POP SP. -/
theorem witness_PopTakesTheTop : calm.undisturbed ∧ Ev.reg .cx ≠ .reg .sp := ⟨.inr rfl, by decide⟩

theorem witness_ExchangesSwap : calm.undisturbed := .inr rfl

theorem witness_AddressesAndPointersAreLoaded : calm.undisturbed := .inr rfl

/-- Two answers queued, and one. -/
theorem witness_InputReadsThePort :
    ({ calm with ioIn := [0x5A, 0xA5] } : State).ioIn = 0x5A :: 0xA5 :: [] ∧
      ({ calm with ioIn := [0x5A] } : State).ioIn = 0x5A :: [] := ⟨rfl, rfl⟩

theorem witness_StringPrimitivesOnce : calm.undisturbed ∧ calm.cur.rep = none := ⟨.inr rfl, rfl⟩

/-- CX = 0, 1 and 2, with either prefix. -/
theorem witness_RepetitionFollowsTheLoop :
    ∀ z : Bool, ∀ n ∈ ([0, 1, 2] : List Word),
      (repeating z n).quiet ∧ (repeating z n).unrequested ∧ (repeating z n).busFree ∧ (repeating z n).settled ∧ (repeating z n).cur.cut = false ∧
        (repeating z n).cur.rep = some z ∧ (repeating z n).cx = n :=
  fun _ _ _ => ⟨⟨rfl, rfl⟩, ⟨rfl, .inl rfl, rfl⟩, ⟨rfl, .inl rfl⟩, ⟨rfl, rfl, rfl⟩, rfl, rfl, rfl⟩

/-- CX = 2, the least with more to do after one repetition: with every mix of NMI, INTR, IF and TF, with no bus request,
and with one that LOCK holds off. CMPSB there compares equal bytes, so that ZF agrees with z = 1. -/
theorem witness_RepetitionIsInterruptedAtThePrefix :
    (∀ nmi intr iF tf0 hold : Bool, let s := { repeating true 2 with
        nmiPending := nmi, lock := hold, flags := { Flags.clear with iF := iF }
        pins := { calm.pins with intrLine := intr, hold := hold }
        cur := { Progress.idle with rep := some true, tf0 := tf0 } }
      s.quiet ∧ s.busFree ∧ s.settled ∧ s.cur.rep = some true ∧ 1 < s.cx.toNat ∧ s.cur.tf0 = tf0 ∧
        s.nmiPending = nmi ∧ s.pins.intrLine = intr ∧ s.flags.iF = iF ∧ s.busRequest = if hold then some .hold else none) ∧
      ∃ u, exec .cmpsb { repeating true 2 with cur := { (repeating true 2).cur with rep := none } } = .next u ∧
        u.flags.zF = true := by
  refine ⟨?_, _, rfl, rfl⟩
  intro nmi intr iF tf0 hold
  refine ⟨⟨rfl, rfl⟩, ⟨rfl, ?_⟩, ⟨rfl, rfl, rfl⟩, rfl, (by decide : 1 < (2 : Word).toNat), rfl, rfl, rfl, rfl, rfl⟩
  cases hold
  · exact .inl rfl
  · exact .inr rfl

/-- CX = 0 and CX = FFFFH. -/
theorem witness_RepeatedStoreFillsTheBlock :
    ∀ n ∈ ([0, 0xFFFF] : List Word),
      (repeating true n).quiet ∧ (repeating true n).unrequested ∧ (repeating true n).busFree ∧ (repeating true n).settled ∧
        (repeating true n).cur.cut = false ∧ (repeating true n).cur.rep = some true ∧
        (repeating true n).flags.dF = false ∧ (repeating true n).cx = n :=
  fun _ _ => ⟨⟨rfl, rfl⟩, ⟨rfl, .inl rfl, rfl⟩, ⟨rfl, .inl rfl⟩, ⟨rfl, rfl, rfl⟩, rfl, rfl, rfl, rfl⟩

/-- The states of `witness_RepeatedScanStopsAtTheFirstMatch`: AL = 41H and three bytes at ES:DI. -/
def scanning (n : Word) (b0 b1 b2 : Byte) : State := put { repeating false n with ax := 0x41 } 0x40000 [b0, b1, b2]

/-- A match at the first byte, at the last, at none of them, and nothing to examine. -/
theorem witness_RepeatedScanStopsAtTheFirstMatch :
    (∀ n b0 b1 b2, let s := scanning n b0 b1 b2
      s.quiet ∧ s.unrequested ∧ s.busFree ∧ s.settled ∧ s.cur.cut = false ∧ s.cur.rep = some false ∧ s.flags.dF = false) ∧
    (scanning 3 0x41 0 0).read8 0x4000 0 = (scanning 3 0x41 0 0).reg8 .al ∧
    ((scanning 3 0 0 0x41).read8 0x4000 2 = (scanning 3 0 0 0x41).reg8 .al ∧
      ∀ j < 2, (scanning 3 0 0 0x41).read8 0x4000 (BitVec.ofNat 16 j) ≠ (scanning 3 0 0 0x41).reg8 .al) ∧
    (∀ j < 3, (scanning 3 0 0 0).read8 0x4000 (BitVec.ofNat 16 j) ≠ (scanning 3 0 0 0).reg8 .al) ∧
    (scanning 0 0 0 0).cx = 0 :=
  ⟨fun _ _ _ _ => ⟨⟨rfl, rfl⟩, ⟨rfl, .inl rfl, rfl⟩, ⟨rfl, .inl rfl⟩, ⟨rfl, rfl, rfl⟩, rfl, rfl, rfl⟩, by decide, by decide, by decide,
    rfl⟩

/-- Every condition holds in one of two states and fails in another. -/
theorem witness_ConditionalJumps :
    let conds : List (Flags → Bool) := [fun f => f.oF, fun f => f.cF, fun f => f.zF, fun f => f.cF || f.zF,
      fun f => f.sF, fun f => f.pF, fun f => f.sF != f.oF, fun f => f.sF != f.oF || f.zF]
    let f1 := { Flags.clear with oF := true, cF := true, zF := true, pF := true }
    let f2 := { Flags.clear with sF := true }
    conds.all (fun c => (c f1 || c f2) && !c .clear) = true := by decide

/-- Equal; below and less; above but less. -/
theorem witness_JumpsAfterCompare :
    [(1, 1), (1, 2), (0x8000, 1)].map (fun p : Word × Word => (decide (p.1 = p.2), decide (p.1.toNat < p.2.toNat),
      decide (p.1.toInt < p.2.toInt))) = [(true, false, false), (false, true, true), (false, false, true)] := by decide

/-- CX = 1, 0 and 2, and both values of ZF. -/
theorem witness_LoopsCountDown :
    ({ calm with cx := 1 } : State).cx = 1 ∧ calm.cx = 0 ∧ calm.cx ≠ 1 ∧ calm.flags.zF = false ∧
      ({ calm with cx := 2, flags := { Flags.clear with zF := true } } : State).flags.zF = true := by decide

theorem witness_JumpsReachTheirTarget : calm.undisturbed := .inr rfl

theorem witness_CallsSaveTheReturn : calm.undisturbed := .inr rfl

theorem witness_ReturnsPopTheTarget : calm.undisturbed := .inr rfl

/-- OF = 1 and OF = 0 before INTO. -/
theorem witness_SoftwareInterruptsEnterTheirType :
    calm.undisturbed ∧ ({ calm with flags := { Flags.clear with oF := true } } : State).undisturbed ∧
      calm.flags.oF = false := ⟨.inr rfl, .inr rfl, rfl⟩

theorem witness_InterruptReturnRestores : calm.undisturbed := .inr rfl

/-- A stack in RAM. -/
theorem witness_InterruptThenReturnRoundTrip : calm.undisturbed ∧ ∀ a, calm.params.kindAt a = .ram :=
  ⟨.inr rfl, fun _ => rfl⟩

/-- TEST* low and high. -/
theorem witness_ProcessorControlCompletes : calm.pins.testLow = true ∧ State.reset.pins.testLow = false := ⟨rfl, rfl⟩

/-- An instruction alone and one behind a prefix run, and a reserved encoding is met. -/
theorem witness_StepRunsTheDecodedInstruction :
    (∃ t, (start [0x90]).runs .nop t) ∧ (∃ t, (start [0x26, 0x40]).runs (.incR16 .ax) t) ∧
      (let s := start [0xD6]
      s.quiet ∧ s.busFree ∧ s.settled ∧ s.run = .running ∧ decode s.fetchBytes = .instr .notUsedD6 [0, 0, 0, 0, 0] ∧
        reservedEncoding .notUsedD6 = some .notUsed) :=
  ⟨⟨_, ⟨rfl, rfl⟩, ⟨rfl, .inl rfl⟩, ⟨rfl, rfl, rfl⟩, rfl, rfl, .inl ⟨_, rfl, rfl⟩⟩,
    ⟨_, ⟨rfl, rfl⟩, ⟨rfl, .inl rfl⟩, ⟨rfl, rfl, rfl⟩, rfl, rfl, .inr ⟨.segEs, _, _, _, rfl, rfl, rfl, rfl, rfl⟩⟩,
    ⟨rfl, rfl⟩, ⟨rfl, .inl rfl⟩, ⟨rfl, rfl, rfl⟩, rfl, rfl, rfl⟩

/-- What the end of an instruction looks at. -/
def endsWith (s : State) (i : Instr) (inhibited requested tf0 seq jumped held : Bool) : Prop :=
  ∃ t, s.runs i t ∧ t.quiet ∧ t.resetAsked = false ∧ t.cur.cut = false ∧ t.inhibitInt = inhibited ∧
    (t.nmiPending || (t.pins.intrLine && t.flags.iF)) = requested ∧ t.cur.tf0 = tf0 ∧ t.cur.swSeq = seq ∧
    t.cur.jumped = jumped ∧ t.busRequest.isSome = held ∧ t.run = .running

/-- Each clause: interrupts held off; nothing requested; NMI; INTR; a trap alone; a trap with an NMI; INT with TF = 1
and an NMI; a trap with INTR; INT with TF = 1 and INTR, which it masks; an NMI and HOLD behind LOCK; and below a locked
HLT that idles, with an NMI and with HOLD too. -/
theorem witness_InterruptsAtTheEndOfAnInstruction :
    endsWith { start [0x8E, 0xD0] with nmiPending := true } (.movSsEv (.reg .ax)) true true false false false false ∧
    endsWith (start [0x90]) .nop false false false false false false ∧
    endsWith { start [0x90] with nmiPending := true } .nop false true false false false false ∧
    endsWith { start [0x90] with
      pins := { calm.pins with intrLine := true, intrType := 0x20 }, flags := { Flags.clear with iF := true } } .nop
      false true false false false false ∧
    endsWith { start [0x90] with flags := { Flags.clear with tF := true } } .nop false false true false false false ∧
    endsWith { start [0x90] with nmiPending := true, flags := { Flags.clear with tF := true } } .nop false true true
      false false false ∧
    endsWith { start [0xCD, 0x20] with nmiPending := true, flags := { Flags.clear with tF := true } } (.intIb 0x20)
      false true true true true false ∧
    endsWith { start [0x90] with
      pins := { calm.pins with intrLine := true, intrType := 0x20 }
      flags := { Flags.clear with iF := true, tF := true } } .nop false true true false false false ∧
    endsWith { start [0xCC] with
      pins := { calm.pins with intrLine := true, intrType := 0x20 }
      flags := { Flags.clear with iF := true, tF := true } } .int3 false false true true true false ∧
    endsWith { start [0x90] with nmiPending := true, lock := true, pins := { calm.pins with hold := true } } .nop
      false true false false false true ∧
    (∀ hold : Bool, ∃ t, { start [0xF4] with
        nmiPending := true, lock := true, pins := { calm.pins with hold := hold } }.runs .hlt t ∧
      t.quiet ∧ t.resetAsked = false ∧ t.cur.cut = false ∧ t.inhibitInt = false ∧ t.nmiPending = true ∧
        (t.lock && t.run != .running) = true ∧ t.busRequest.isSome = hold) := by
  refine ⟨?_, ?_, ?_, ?_, ?_, ?_, ?_, ?_, ?_, ?_, by
    intro hold
    cases hold <;>
      exact ⟨_, ⟨⟨rfl, rfl⟩, ⟨rfl, .inr rfl⟩, ⟨rfl, rfl, rfl⟩, rfl, rfl, .inl ⟨_, rfl, rfl⟩⟩, ⟨rfl, rfl⟩, rfl, rfl, rfl,
        rfl, rfl, rfl⟩⟩ <;>
    exact ⟨_, ⟨⟨rfl, rfl⟩, ⟨rfl, by decide⟩, ⟨rfl, rfl, rfl⟩, rfl, rfl, .inl ⟨_, rfl, rfl⟩⟩, ⟨rfl, rfl⟩, rfl, rfl, rfl, rfl,
      rfl, rfl, rfl, rfl, rfl⟩

/-- Halted and waiting, with and without an NMI, INTR, IF, and a HOLD that LOCK holds off. -/
theorem witness_HaltedAndWaitingSteps :
    ∀ r ∈ ([.halted, .waiting 0x0101] : List RunState), ∀ nmi intr iF hold : Bool,
      let s := { State.reset with
        run := r, nmiPending := nmi, lock := hold, flags := { Flags.clear with iF := iF }
        pins := { State.reset.pins with intrLine := intr, hold := hold } }
      s.quiet ∧ s.busFree ∧ s.settled ∧ s.cur = .idle ∧ s.pins.testLow = false ∧ s.run = r ∧
        s.nmiPending = nmi ∧ s.pins.intrLine = intr ∧ s.flags.iF = iF ∧ s.busRequest = if hold then some .hold else none := by
  intro r _ nmi intr iF hold
  refine ⟨⟨rfl, rfl⟩, ⟨rfl, ?_⟩, ⟨rfl, rfl, rfl⟩, rfl, rfl, rfl, rfl, rfl, rfl, rfl⟩
  cases hold
  · exact .inl rfl
  · exact .inr rfl

/-- Waiting with TEST* low, with and without TF, an NMI, INTR, IF, and a HOLD that LOCK holds off. -/
theorem witness_WaitEndsWhenTestIsLow :
    ∀ tF nmi intr iF hold : Bool, let s := { calm with
        run := .waiting 0x0101, nmiPending := nmi, lock := hold, flags := { Flags.clear with tF := tF, iF := iF }
        pins := { calm.pins with intrLine := intr, hold := hold } }
      s.quiet ∧ s.busFree ∧ s.settled ∧ s.cur = .idle ∧ s.run = .waiting 0x0101 ∧ s.pins.testLow = true ∧
        s.flags.tF = tF ∧ s.nmiPending = nmi ∧ s.pins.intrLine = intr ∧ s.flags.iF = iF ∧
        s.busRequest = if hold then some .hold else none := by
  intro tF nmi intr iF hold
  refine ⟨⟨rfl, rfl⟩, ⟨rfl, ?_⟩, ⟨rfl, rfl, rfl⟩, rfl, rfl, rfl, rfl, rfl, rfl, rfl, rfl⟩
  cases hold
  · exact .inl rfl
  · exact .inr rfl

/-- A state in maximum mode. -/
def maximal (rq0 rq1 : Bool) (released : Option BusMaster) : State :=
  { calm with
    params := { calm.params with busMode := .maximum }
    busReleased := released
    pins := { calm.pins with rq0 := rq0, rq1 := rq1 } }

/-- HOLD; a request on either line, on both, and on the second while it has the bus; a waiting WAIT with TEST* low and
every mix of TF, NMI, INTR and IF; a bus given back and asked for again; and a sampling that was put off, with every mix
of NMI, INTR, IF and a trap, when nobody asks any more, when LOCK keeps the bus, and, in states with the invariant, when
HOLD falls or either line gives the bus back. -/
theorem witness_BusRequestsComeFirst :
    (let s := { calm with pins := { calm.pins with hold := true } };
      s.quiet ∧ s.resetAsked = false ∧ s.run ≠ .inReset ∧ s.lock = false ∧ s.params.busMode = .minimum ∧
        s.pins.hold = true ∧ ∀ next, s.run ≠ .waiting next) ∧
    (∀ q ∈ [maximal true false none, maximal false true none, maximal true true none,
        maximal true true (some (.line .gt1))],
      q.quiet ∧ q.resetAsked = false ∧ q.run ≠ .inReset ∧ q.lock = false ∧ q.params.busMode = .maximum ∧
        (q.pins.rq0 = true ∨ q.pins.rq1 = true)) ∧
    (∀ tF nmi intr iF : Bool, let s := { calm with
        run := .waiting 0x0101, nmiPending := nmi, flags := { Flags.clear with tF := tF, iF := iF }
        pins := { calm.pins with intrLine := intr, hold := true } }
      s.quiet ∧ s.resetAsked = false ∧ s.lock = false ∧ s.params.busMode = .minimum ∧ s.pins.hold = true ∧
        s.run = .waiting 0x0101 ∧ s.pins.testLow = true ∧ s.unsampled = none ∧ s.flags.tF = tF ∧ s.nmiPending = nmi ∧
        s.pins.intrLine = intr ∧ s.flags.iF = iF) ∧
    (let s := { maximal true true (some (.line .gt1)) with outside := [[.rq .gt1 false, .rq .gt1 true]] };
      s.masters = [] ∧ s.resetAsked = false ∧ s.run ≠ .inReset ∧ s.lock = false ∧ s.params.busMode = .maximum ∧
        s.busReleased = some (.line .gt1) ∧ s.pins.rq0 = true) ∧
    (let s := { calm with busReleased := some .hold, outside := [[.hold false, .hold true]] };
      s.masters = [] ∧ s.resetAsked = false ∧ s.run ≠ .inReset ∧ s.lock = false ∧ s.params.busMode = .minimum) ∧
    (∀ nmi intr iF tf0 seq lock : Bool, let s := { calm with
        nmiPending := nmi, flags := { Flags.clear with iF := iF }, lock := lock
        pins := { calm.pins with intrLine := intr, hold := lock }
        unsampled := some { tf0 := tf0, seq := seq, resume := 0x0100, relock := false } }
      ∃ b, State.busComesBack s b) ∧
    (∀ nmi intr iF tf0 seq : Bool, let s := { start [0x90] with
        nmiPending := nmi, flags := { Flags.clear with iF := iF }
        busReleased := some .hold, pins := { calm.pins with intrLine := intr, hold := true }
        outside := [[.hold false]]
        unsampled := some { tf0 := tf0, seq := seq, resume := 0x0100, relock := false } }
      s.Inv ∧ (∃ b, State.busComesBack s b) ∧ s.nmiPending = nmi ∧ s.pins.intrLine = intr ∧ s.flags.iF = iF) ∧
    (∀ gt1 nmi intr iF tf0 seq : Bool, let s := { maximal (!gt1) gt1 (some (.line (if gt1 then .gt1 else .gt0))) with
        nmiPending := nmi, flags := { Flags.clear with iF := iF }
        pins := { calm.pins with intrLine := intr, rq0 := !gt1, rq1 := gt1 }
        outside := [[.rq (if gt1 then .gt1 else .gt0) false]]
        unsampled := some { tf0 := tf0, seq := seq, resume := 0x0100, relock := false } }
      s.Inv ∧ (∃ b, State.busComesBack s b) ∧ s.nmiPending = nmi ∧ s.pins.intrLine = intr ∧ s.flags.iF = iF) :=
  ⟨⟨⟨rfl, rfl⟩, by decide, by decide, rfl, rfl, rfl, fun _ => nofun⟩, fun q h => by
    simp only [List.mem_cons, List.not_mem_nil, or_false] at h
    rcases h with rfl | rfl | rfl | rfl <;> exact ⟨⟨rfl, rfl⟩, by decide⟩,
    fun _ _ _ _ => ⟨⟨rfl, rfl⟩, rfl, rfl, rfl, rfl, rfl, rfl, rfl, rfl, rfl, rfl, rfl⟩, by decide, by decide,
    fun _ _ _ _ _ lock => by
      cases lock
      · exact ⟨_, rfl, rfl, nofun, .inl ⟨rfl, ⟨rfl, .inl rfl⟩, rfl⟩⟩
      · exact ⟨_, rfl, rfl, nofun, .inl ⟨rfl, ⟨rfl, .inr rfl⟩, rfl⟩⟩,
    fun _ _ _ _ _ => ⟨⟨(by decide : Memory.wf (start [0x90]).mem), rfl, rfl, Nat.zero_le _, Nat.zero_le _, fun _ => rfl, fun _ => ⟨rfl, nofun⟩, fun h => absurd rfl h, nofun, nofun,
      nofun⟩, ⟨_, rfl, rfl, nofun, .inr (.inl ⟨rfl, rfl, rfl, rfl⟩)⟩, rfl, rfl, rfl⟩,
    fun gt1 _ _ _ _ _ => by
      cases gt1
      · exact ⟨⟨(by decide : Memory.wf calm.mem), rfl, rfl, Nat.zero_le _, Nat.zero_le _, fun _ => rfl, fun _ => ⟨rfl, nofun⟩, fun h => absurd rfl h, nofun, nofun,
          nofun⟩, ⟨_, rfl, rfl, nofun, .inr (.inr (.inl ⟨rfl, rfl, rfl, rfl, rfl⟩))⟩, rfl, rfl, rfl⟩
      · exact ⟨⟨(by decide : Memory.wf calm.mem), rfl, rfl, Nat.zero_le _, Nat.zero_le _, fun _ => rfl, fun _ => ⟨rfl, nofun⟩, fun h => absurd rfl h, nofun, nofun,
          nofun⟩, ⟨_, rfl, rfl, nofun, .inr (.inr (.inr ⟨rfl, rfl, rfl, rfl, rfl⟩))⟩, rfl, rfl, rfl⟩⟩

/-- RESET high, alone, with the bus released and with LOCK* active; RESET low again after a reset, alone and with HOLD
high, and with both request lines pending; and an entry of events with each kind last of its kind. -/
theorem witness_ResetLine :
    (∀ released lock : Bool, let s := { calm with
        busReleased := if released then some .hold else none, lock := lock, pins := { calm.pins with reset := true } }
      s.quiet ∧ s.resetAsked = true ∧ s.lock = lock) ∧
      (∃ t, step { calm with run := .inReset, pins := { calm.pins with hold := true } } = .next t ∧
        t.busRequest = some .hold) ∧
      (let s := { maximal true true none with run := .inReset };
        s.quiet ∧ s.resetAsked = false ∧ s.run = .inReset ∧ s.params.busMode = .maximum ∧ s.pins.rq0 = true ∧
          s.pins.rq1 = true) ∧
      (let s := { calm with run := .inReset }; s.quiet ∧ s.resetAsked = false ∧ s.run = .inReset) ∧
      (let s := { calm with
          run := .inReset
          pins := { calm.pins with reset := true }
          outside := [[.reset false, .nmiEdge, .test false, .hold true, .intr true 0x20]] };
        s.outside = ([] ++ .reset false :: [.nmiEdge, .test false, .hold true, .intr true 0x20]) :: [] ∧
          s.run = .inReset ∧ s.look.resetAsked = false) ∧
      ({ calm with outside := [[.nmiEdge, .reset true, .nmiEdge]] } : State).outside =
        ([.nmiEdge] ++ .reset true :: [.nmiEdge]) :: [] :=
  ⟨fun _ _ => ⟨⟨rfl, rfl⟩, rfl, rfl⟩, ⟨_, rfl, rfl⟩, ⟨⟨rfl, rfl⟩, rfl, rfl, rfl, rfl, rfl⟩, ⟨⟨rfl, rfl⟩, rfl, rfl⟩, ⟨rfl, rfl, rfl⟩, rfl⟩

/-- An instruction in sequence, one that holds interrupts off, and a jump; with an empty queue. A device just within
reach, and bytes that have been read. -/
theorem witness_PrefetchedBytesAreOldOrNew :
    endsWith (start [0x90]) .nop false false false false false false ∧
      endsWith (start [0x8E, 0xD0]) (.movSsEv (.reg .ax)) true false false false false false ∧
      endsWith (start [0xEB, 0xFE]) (.jmpShort 0xFE) false false false false true false ∧
      (start [0x90]).queue.length ≤ (start [0x90]).queueSize ∧
      (let s := { mapped with cs := 0x5FFF, ip := 0xA, prefetched := 6 }
      s.prefetched ≤ s.queueSize ∧
        ∃ d < 1 + s.queueSize, s.params.kindAt (phys s.cs (s.ip + BitVec.ofNat 16 d)) = .device) := by
  refine ⟨?_, ?_, ?_, by decide, by decide, 6, by decide, by decide⟩ <;>
    exact ⟨_, ⟨⟨rfl, rfl⟩, ⟨rfl, .inl rfl⟩, ⟨rfl, rfl, rfl⟩, rfl, rfl, .inl ⟨_, rfl, rfl⟩⟩, ⟨rfl, rfl⟩, rfl, rfl, rfl, rfl,
      rfl, rfl, rfl, rfl, rfl⟩

/-- A state with the invariant that steps. -/
theorem witness_InvariantKeptByEveryStep : (start [0x90]).Inv ∧ ∃ t, step (start [0x90]) = .next t :=
  ⟨⟨by decide, by decide, rfl, by decide, by decide, by decide, by decide, by decide, by decide, by decide, by decide⟩, _,
    rfl⟩

/-- A step from a state with ROM, a device and nothing in its memory map, at the ends of their ranges. -/
theorem witness_StoresFollowTheMemoryMap :
    (∃ t, step mapped = .next t) ∧ mapped.quiet ∧
      (let s := { mapped with ds := 0x6000 }
      s.params.kindAt (phys (s.segOr .ds) 0xFFFE) = .device ∧ s.params.kindAt (phys (s.segOr .ds) 0xFFFF) = .device) ∧
      [0x4FFFF, 0x50000, 0x5FFFF, 0x60000, 0x70000, 0x7FFFF, 0x80000].map mapped.params.kindAt =
        [.ram, .rom, .rom, .device, .nothing, .nothing, .ram] := ⟨⟨_, rfl⟩, ⟨rfl, rfl⟩, by decide, by decide⟩

/-- The shortest and the longest encodings. -/
theorem witness_DecodeReadsBackTheEncoding :
    Instr.wf .nop = true ∧ Instr.wf (.movEvIv (.mem (.direct 0x2000)) 0x1234) = true := ⟨rfl, rfl⟩

/-- The shortest and the longest encodings, and six bytes. -/
theorem witness_DecodedInstructionsEncodeBack :
    decode [0x90] = .instr .nop [] ∧
      decode [0xC7, 0x06, 0x00, 0x20, 0x34, 0x12] = .instr (.movEvIv (.mem (.direct 0x2000)) 0x1234) [] ∧
      6 ≤ ([0xC7, 0x06, 0x00, 0x20, 0x34, 0x12] : List Byte).length := by decide

end Sys2Proof.Tests
end

section
/-! PROOFS. The prefixes (spec/30_encoding.md R96 to R99; spec/45_processor_control.md R262): what each does to the whole
state, and obligation O44. -/
namespace Sys2Proof.Proofs
open Sys2Proof Sys2Proof.Machine

/-! ### The operations of the prefixes -/

theorem overrideSeg_eq (s : State) (r : SReg) :
    s.overrideSeg r = { s with cur := { s.cur with segOverride := some r, ipPrefix := s.ip - 1 } } := rfl

theorem repeatPrefix_eq (s : State) (z : Bool) :
    s.repeatPrefix z = { s with cur := { s.cur with rep := some z, ipPrefix := s.ip - 1 } } := rfl

/-- The pin LOCK* is driven active only where there is one, and only if it is not active yet (R3, R262). -/
theorem lockCalls_true (s : State) :
    s.lockCalls true = if s.params.busMode = .maximum ∧ s.lock = false then [.lockPin true] else [] := by
  simp only [State.lockCalls, ne_eq, Bool.not_eq_true]

/-- What the host sees on LOCK* does not depend on the prefixes in force. -/
theorem prefixByte_lockCalls (s : State) (on : Bool) : s.prefixByte.lockCalls on = s.lockCalls on := rfl

theorem prefixByte_setLock_true (s : State) :
    s.prefixByte.setLock true = { s with
      lock := true
      trace := (if s.params.busMode = .maximum ∧ s.lock = false then [.lockPin true] else []) ++ s.trace
      cur := { s.cur with ipPrefix := s.ip - 1 } } := by
  rw [State.setLock, prefixByte_lockCalls, lockCalls_true, State.prefixByte]

/-! ### The seven prefixes -/

theorem exec_segEs (s : State) : exec .segEs s = .next (s.overrideSeg .es) := rfl

theorem exec_segCs (s : State) : exec .segCs s = .next (s.overrideSeg .cs) := rfl

theorem exec_segSs (s : State) : exec .segSs s = .next (s.overrideSeg .ss) := rfl

theorem exec_segDs (s : State) : exec .segDs s = .next (s.overrideSeg .ds) := rfl

theorem exec_lock (s : State) : exec .lock s = .next (s.prefixByte.setLock true) := rfl

theorem exec_repne (s : State) : exec .repne s = .next (s.repeatPrefix false) := rfl

theorem exec_rep (s : State) : exec .rep s = .next (s.repeatPrefix true) := rfl

/-- Settles O44, prefix by prefix, from what the operation of its kind does to the state. -/
theorem prefixesAreRemembered : Obligations.PrefixesAreRemembered := by
  intro s
  refine ⟨?overrides, ?lock, ?repeats⟩
  case overrides =>
    simp only [List.forall_mem_cons, ← overrideSeg_eq]
    exact ⟨exec_segEs s, exec_segCs s, exec_segSs s, exec_segDs s, List.forall_mem_nil _⟩
  case lock => rw [exec_lock, prefixByte_setLock_true]
  case repeats =>
    simp only [List.forall_mem_cons, ← repeatPrefix_eq]
    exact ⟨exec_repne s, exec_rep s, List.forall_mem_nil _⟩

end Sys2Proof.Proofs
end

section
/-! PROOFS. The state right after reset (spec/10_state.md R36): its registers and flags, and the invariant it meets;
obligations O53 and O54. -/
namespace Sys2Proof.Proofs
open Sys2Proof Sys2Proof.Machine

/-! ### The state after reset -/

/-- D2: with every flag 0, only the bits that always read 1 are left (R23). -/
theorem toWord_clear : Flags.clear.toWord = 0xF002 := by decide

theorem isFlagsImage_clear : isFlagsImage 0xF002 Flags.clear := toWord_clear ▸ toWord_isFlagsImage Flags.clear

theorem reset_reg16 (r : Reg16) : State.reset.reg16 r = 0 := by cases r <;> rfl

/-- The first fetch, from the code segment FFFFH (R36, R41). -/
theorem phys_reset : phys State.reset.cs State.reset.ip = 0xFFFF0 := by decide

theorem reset_settled : State.reset.settled := ⟨rfl, rfl, rfl⟩

/-- Settles O53, field by field; the flags word, the first fetch and the general registers by their own lemmas. -/
theorem resetState : Obligations.ResetState :=
  ⟨rfl, rfl, rfl, isFlagsImage_clear, rfl, rfl, rfl, rfl, rfl, rfl, rfl, rfl, phys_reset, reset_reg16⟩

/-! ### The invariant -/

/-- In a settled state nobody has the bus or waits for it, so that of the invariant only the memory, the queue, the
instruction in progress and the RESET pin are left. -/
theorem inv_of_settled {s : State} (hs : s.settled) (hmem : Memory.wf s.mem) (hcur : s.cur = .idle)
    (hinhibit : s.inhibitInt = false) (hqueue : s.queue.length ≤ s.queueSize) (hread : s.prefetched ≤ s.queueSize)
    (hlock : s.run = .inReset → s.lock = false)
    (hpin : s.pins.reset = true → s.nmiPending = false ∧ s.pins.rq0 = false ∧ s.pins.rq1 = false) : s.Inv := by
  obtain ⟨hbus, hsample, hfirst⟩ := hs
  refine ⟨hmem, hcur, hinhibit, hqueue, hread, ?released, ?unsampled, ?beforeFetch, ?asking, ?inReset, hpin⟩
  case released => exact fun h => absurd hbus h
  case unsampled => exact fun h => absurd hsample h
  case beforeFetch => exact fun h => absurd hfirst h
  case asking => simp only [hfirst, List.not_mem_nil, false_implies, implies_true]
  case inReset => exact fun h => ⟨hbus, hlock h, hsample, hfirst⟩

/-- Settles O54: the state after reset is settled, its memory is canonical, its queue is empty and RESET is low. -/
theorem invariantAtReset : Obligations.InvariantAtReset :=
  inv_of_settled reset_settled State.reset_wf rfl rfl (Nat.zero_le _) (Nat.zero_le _) (fun _ => rfl)
    (fun h => nomatch h)

end Sys2Proof.Proofs
end

section
/-! PROOFS. What a step may do to memory: the memory map, the canonical form of memory, and which bytes stay as they are
(spec/20_memory.md R40, R63). -/
namespace Sys2Proof.Proofs
open Sys2Proof Sys2Proof.Machine

/-! ### The relation -/

/-- From `s` to `t` the memory map stays, memory stays canonical, and ROM stays what it is, whatever the platform and other
masters do (R40, R63). -/
structure RomKept (s t : State) : Prop where
  params : t.params = s.params
  canonical : Memory.wf s.mem → Memory.wf t.mem
  rom : ∀ a, s.params.kindAt a = .rom → Memory.read t.mem a = Memory.read s.mem a

/-- As `RomKept`, and with a quiet platform, which stays quiet, every byte that is not RAM stays what it is (R63). -/
structure MapKept (s t : State) : Prop extends RomKept s t where
  quiet : s.quiet → t.quiet
  fixed : s.quiet → ∀ a, s.params.kindAt a ≠ .ram → Memory.read t.mem a = Memory.read s.mem a

theorem RomKept.trans {s t u : State} (h : RomKept s t) (k : RomKept t u) : RomKept s u where
  params := k.params.trans h.params
  canonical := fun hs => k.canonical (h.canonical hs)
  rom := fun a ha => (k.rom a (h.params ▸ ha)).trans (h.rom a ha)

theorem MapKept.trans {s t u : State} (h : MapKept s t) (k : MapKept t u) : MapKept s u where
  toRomKept := h.toRomKept.trans k.toRomKept
  quiet := fun hs => k.quiet (h.quiet hs)
  fixed := fun hs a ha => (k.fixed (h.quiet hs) a (h.params ▸ ha)).trans (h.fixed hs a ha)

theorem RomKept.of_same {s t : State} (hmem : t.mem = s.mem) (hparams : t.params = s.params) : RomKept s t where
  params := hparams
  canonical := fun hs => hmem ▸ hs
  rom := fun _ _ => by rw [hmem]

theorem MapKept.of_same {s t : State} (hmem : t.mem = s.mem) (hparams : t.params = s.params)
    (houtside : t.outside = s.outside) (hmasters : t.masters = s.masters) : MapKept s t where
  toRomKept := .of_same hmem hparams
  quiet := fun ⟨ho, hm⟩ => ⟨houtside.trans ho, hmasters.trans hm⟩
  fixed := fun _ _ _ => by rw [hmem]

theorem MapKept.refl (s : State) : MapKept s s := .of_same rfl rfl rfl rfl

/-- What `MapKept` looks at. -/
def memView (s : State) : List Host.Cell × Params × List (List PinEvent) × List (List Host.Cell) :=
  (s.mem, s.params, s.outside, s.masters)

theorem MapKept.of_view {s t : State} (h : memView t = memView s) : MapKept s t := by
  simp only [memView, Prod.mk.injEq] at h
  obtain ⟨hmem, hparams, houtside, hmasters⟩ := h
  exact .of_same hmem hparams houtside hmasters

/-- Before the operation something else may have changed. -/
theorem MapKept.since {s t u : State} (h : MapKept t u) (hs : memView t = memView s) : MapKept s u :=
  (MapKept.of_view hs).trans h

/-- After the operation something else may have changed. -/
theorem MapKept.upto {s t u : State} (h : MapKept s t) (hu : memView u = memView t) : MapKept s u :=
  h.trans (.of_view hu)

/-! ### Stores of the CPU -/

/-- Only RAM takes what the CPU stores (R63). -/
theorem read_store_of_not_ram {p : Params} {a b : Nat} (m : List Host.Cell) (v : Byte) (h : p.kindAt b ≠ .ram) :
    Memory.read (Memory.store p m a v) b = Memory.read m b := by
  rw [Memory.read_store, if_neg]
  rintro ⟨rfl, hram⟩
  exact h hram

theorem MapKept.store (s : State) {a : Nat} (ha : a < 0x100000) (v : Byte) : MapKept s (s.store a v) where
  params := rfl
  canonical := fun hs => Memory.wf_store _ v hs ha
  rom := fun _ hb => read_store_of_not_ram _ v (by simp [hb])
  quiet := id
  fixed := fun _ _ hb => read_store_of_not_ram _ v hb

theorem MapKept.write8 (s : State) (base off : Word) (v : Byte) : MapKept s (s.write8 base off v) :=
  .store s (phys_lt base off) v

/-- A word is stored as its two bytes are (R47). -/
theorem MapKept.write16 (s : State) (base off v : Word) : MapKept s (s.write16 base off v) :=
  ((MapKept.write8 s base off _).trans (.write8 _ base (off + 1) _)).trans
    (.of_same (s.write16_mem base off v) rfl rfl rfl)

/-! ### What other masters and the platform do -/

theorem MapKept.busGap (s : State) : MapKept s s.busGap where
  params := s.busGap_params
  canonical := s.busGap_wf
  rom := fun a ha => by
    unfold State.busGap
    split
    · rfl
    · split
      · rfl
      · exact Memory.read_writeAll_rom s.params s.mem _ a ha
  quiet := fun hs => (State.busGap_of_undisturbed (State.undisturbed_of_quiet hs)).symm ▸ hs
  fixed := fun hs _ _ => by rw [State.busGap_of_undisturbed (State.undisturbed_of_quiet hs)]

/-- A byte that the platform or another master cannot change stays (R63). -/
theorem read_put_of_fixed {p : Params} {fixed : Storage → Bool} {a : Nat} (m : List Host.Cell) (c : Host.Cell)
    (h : fixed (p.kindAt a) = true) : Memory.read (Memory.put p fixed m c) a = Memory.read m a := by
  unfold Memory.put
  split
  · rfl
  · refine Memory.read_write_other ?_
    rintro rfl
    contradiction

theorem RomKept.put (s : State) (fixed : Storage → Bool) (c : Host.Cell) (h : fixed .rom = true) :
    RomKept s { s with mem := Memory.put s.params fixed s.mem c } where
  params := rfl
  canonical := Memory.wf_put s.params fixed c
  rom := fun _ ha => read_put_of_fixed s.mem c (ha ▸ h)

theorem RomKept.pinEvent (s : State) (e : PinEvent) : RomKept s (s.pinEvent e) := by
  cases e with
  | nmiEdge | intr | test | reset => exact .of_same rfl rfl
  | hold request => cases request <;> exact .of_same rfl rfl
  | rq line request => cases line <;> cases request <;> exact .of_same rfl rfl
  | shows a v => exact .put s (fun k => k == .ram || k == .rom) (a, v) rfl

theorem RomKept.pinEvents (s : State) (es : List PinEvent) : RomKept s (es.foldl State.pinEvent s) := by
  induction es generalizing s with
  | nil => exact .of_same rfl rfl
  | cons e es ih => exact (RomKept.pinEvent s e).trans (ih _)

theorem RomKept.nextEvents (s : State) : RomKept s s.nextEvents := by
  unfold State.nextEvents
  split
  next => exact .of_same rfl rfl
  next es rest _ => exact RomKept.trans (t := { s with outside := rest }) (.of_same rfl rfl) (.pinEvents _ es)

/-- A quiet platform does nothing, and another never changes ROM (R63). -/
theorem MapKept.look (s : State) : MapKept s s.look where
  toRomKept := (RomKept.nextEvents s).trans (MapKept.busGap _).toRomKept
  quiet := fun hs => (State.look_of_quiet hs).symm ▸ hs
  fixed := fun hs _ _ => by rw [State.look_of_quiet hs]

theorem MapKept.keepPrefetched (t s : State) : MapKept t (t.keepPrefetched s) := by
  unfold State.keepPrefetched
  split <;> exact .of_view rfl

theorem MapKept.hear (s : State) : MapKept s s.hear := by
  rw [State.hear_eq]
  split
  · exact (MapKept.look s).trans (.keepPrefetched _ s)
  · exact .look s

end Sys2Proof.Proofs
end

section
/-! PROOFS. What an instruction may do to the machine apart from registers, flags and ports: one relation, a rule per
operation, and the instructions by their operations. -/
namespace Sys2Proof.Proofs
open Sys2Proof Sys2Proof.Machine

/-! ### The relation -/

/-- The state with all blanked that an instruction may change at will: registers, flags, ports, prefixes, the lock and
what the host has heard. -/
def outer (s : State) : State :=
  { s with
    ax := 0, cx := 0, dx := 0, bx := 0, sp := 0, bp := 0, si := 0, di := 0
    es := 0, cs := 0, ss := 0, ds := 0, ip := 0
    flags := .clear, inhibitInt := false, lock := false, ioIn := [], trace := [], drawn := 0
    cur := { Progress.idle with cut := s.cur.cut } }

/-- What an instruction may do: memory as the memory map has it, pins, requests and grants untouched, the queue kept or
shortened, and the CPU not in reset after it. -/
structure Effect (s t : State) : Prop extends MapKept s t where
  pins : t.pins = s.pins
  nmi : t.nmiPending = s.nmiPending
  released : t.busReleased = s.busReleased
  unsampled : t.unsampled = s.unsampled
  beforeFetch : t.beforeFetch = s.beforeFetch
  running : s.run ≠ .inReset → t.run ≠ .inReset
  queue : t.queue.length ≤ s.queue.length
  prefetched : t.prefetched ≤ s.prefetched
  cut : t.cur.cut = s.cur.cut

theorem Effect.trans {s t u : State} (h : Effect s t) (k : Effect t u) : Effect s u where
  toMapKept := h.toMapKept.trans k.toMapKept
  pins := k.pins.trans h.pins
  nmi := k.nmi.trans h.nmi
  released := k.released.trans h.released
  unsampled := k.unsampled.trans h.unsampled
  beforeFetch := k.beforeFetch.trans h.beforeFetch
  running := k.running ∘ h.running
  queue := k.queue.trans h.queue
  prefetched := k.prefetched.trans h.prefetched
  cut := k.cut.trans h.cut

/-- A change of registers, flags, ports or the host's trace alone. -/
theorem Effect.of_outer {s t : State} (h : outer t = outer s) : Effect s t where
  toMapKept := .of_same (congrArg State.mem h :) (congrArg State.params h :) (congrArg State.outside h :)
    (congrArg State.masters h :)
  pins := (congrArg State.pins h :)
  nmi := (congrArg State.nmiPending h :)
  released := (congrArg State.busReleased h :)
  unsampled := (congrArg State.unsampled h :)
  beforeFetch := (congrArg State.beforeFetch h :)
  running := fun hs ht => hs (Eq.trans (congrArg State.run h :).symm ht)
  queue := (congrArg (·.queue.length) h :).le
  prefetched := (congrArg State.prefetched h :).le
  cut := (congrArg (·.cur.cut) h :)

theorem Effect.refl (s : State) : Effect s s := .of_outer rfl

/-- A change of memory alone, but for what `of_outer` allows. -/
theorem Effect.of_mapKept {s t : State} (h : MapKept s t)
    (ho : { outer t with mem := s.mem, masters := s.masters } = outer s) : Effect s t where
  toMapKept := h
  pins := (congrArg State.pins ho :)
  nmi := (congrArg State.nmiPending ho :)
  released := (congrArg State.busReleased ho :)
  unsampled := (congrArg State.unsampled ho :)
  beforeFetch := (congrArg State.beforeFetch ho :)
  running := fun hs ht => hs (Eq.trans (congrArg State.run ho :).symm ht)
  queue := (congrArg (·.queue.length) ho :).le
  prefetched := (congrArg State.prefetched ho :).le
  cut := (congrArg (·.cur.cut) ho :)

/-- Registers, flags, ports and the host's trace changed after an operation. -/
theorem Effect.then_outer {s t u : State} (h : Effect s t) (hu : outer u = outer t) : Effect s u :=
  h.trans (.of_outer hu)

/-- Whichever way an instruction goes. -/
theorem Effect.ite {s t u : State} {c : Prop} [Decidable c] (h : Effect s t) (k : Effect s u) :
    Effect s (if c then t else u) := by
  split
  · exact h
  · exact k

/-! ### Registers, flags and ports -/

theorem Effect.setReg16 (s : State) (r : Reg16) (v : Word) : Effect s (s.setReg16 r v) :=
  .of_outer (by cases r <;> rfl)

theorem Effect.setReg8 (s : State) (r : Reg8) (v : Byte) : Effect s (s.setReg8 r v) :=
  .of_outer (by cases r <;> rfl)

theorem Effect.setSreg (s : State) (r : SReg) (v : Word) : Effect s (s.setSreg r v) :=
  .of_outer (by cases r <;> rfl)

theorem Effect.setFlags (s : State) (f : Flags) : Effect s (s.setFlags f) := .of_outer rfl

theorem Effect.maskInterrupts (s : State) : Effect s s.maskInterrupts := .of_outer rfl

theorem Effect.addSp (s : State) (n : Word) : Effect s (s.addSp n) := .of_outer rfl

theorem Effect.drew (s : State) : Effect s s.drew := .of_outer rfl

theorem Effect.drop16 (s : State) : Effect s s.drop16 := .of_outer rfl

theorem Effect.loadSeg (s : State) (r : SReg) (v : Word) : Effect s (s.loadSeg r v) :=
  (Effect.setSreg s r v).then_outer rfl

theorem Effect.portAnswered (s : State) : Effect s s.portAnswered := by
  unfold State.portAnswered
  split
  · exact .drew s
  · exact .of_outer rfl

theorem Effect.ioByteRead (s : State) (port : Word) : Effect s (s.ioByteRead port) :=
  (Effect.portAnswered s).then_outer rfl

theorem Effect.ioWordRead (s : State) (port : Word) : Effect s (s.ioWordRead port) :=
  .ite (((Effect.portAnswered s).trans (.portAnswered _)).then_outer rfl)
    ((Effect.ioByteRead s port).trans (.ioByteRead _ _))

theorem Effect.ioWordWrite (s : State) (port v : Word) : Effect s (s.ioWordWrite port v) :=
  .ite (.of_outer rfl) (.of_outer rfl)

theorem Effect.inByte (s : State) (port : Word) : Effect s (s.inByte port) :=
  (Effect.ioByteRead s port).trans (.setReg8 _ _ _)

theorem Effect.inWord (s : State) (port : Word) : Effect s (s.inWord port) :=
  (Effect.ioWordRead s port).then_outer rfl

theorem Effect.dummyRead (s : State) (e : Ev) : Effect s (s.dummyRead e) := by cases e <;> exact .of_outer rfl

/-! ### Memory and the stack -/

theorem Effect.write8 (s : State) (base off : Word) (v : Byte) : Effect s (s.write8 base off v) :=
  .of_mapKept (.write8 s base off v) rfl

theorem Effect.write16 (s : State) (base off v : Word) : Effect s (s.write16 base off v) :=
  .of_mapKept (.write16 s base off v) rfl

theorem Effect.busGap (s : State) : Effect s s.busGap :=
  .of_mapKept (.busGap s) (by unfold State.busGap; split <;> (try split) <;> rfl)

theorem Effect.push16 (s : State) (v : Word) : Effect s (s.push16 v) :=
  (Effect.of_outer rfl : Effect s { s with sp := s.sp - 2 }).trans (.write16 _ _ _ _)

theorem Effect.gapEb (s : State) (e : Eb) : Effect s (s.gapEb e) := by
  cases e with
  | reg r => exact .refl s
  | mem m => exact .busGap s

theorem Effect.gapEv (s : State) (e : Ev) : Effect s (s.gapEv e) := by
  cases e with
  | reg r => exact .refl s
  | mem m => exact .busGap s

theorem Effect.writeEb (s : State) (e : Eb) (v : Byte) : Effect s (s.writeEb e v) := by
  cases e with
  | reg r => exact .setReg8 s r v
  | mem m => exact .write8 s _ _ v

theorem Effect.writeEv (s : State) (e : Ev) (v : Word) : Effect s (s.writeEv e v) := by
  cases e with
  | reg r => exact .setReg16 s r v
  | mem m => exact .write16 s _ _ v

theorem Effect.pushOperand (s : State) (e : Ev) : Effect s (s.pushOperand e) := by
  cases e with
  | reg r => exact .push16 s _
  | mem m => exact (Effect.busGap s).trans (.push16 _ _)

/-! ### Operations on operands -/

theorem Effect.rmwEb (s : State) (e : Eb) (op : Byte → Flags → Byte × Flags) : Effect s (s.rmwEb e op) :=
  ((Effect.gapEb s e).trans (.setFlags _ _)).trans (.writeEb _ _ _)

theorem Effect.rmwEv (s : State) (e : Ev) (op : Word → Flags → Word × Flags) : Effect s (s.rmwEv e op) :=
  ((Effect.gapEv s e).trans (.setFlags _ _)).trans (.writeEv _ _ _)

theorem Effect.aluEb (s : State) (op : Byte → Byte → Flags → Byte × Flags) (dst : Eb) (b : Byte) :
    Effect s (s.aluEb op dst b) := .rmwEb s dst _

theorem Effect.aluEv (s : State) (op : Word → Word → Flags → Word × Flags) (dst : Ev) (b : Word) :
    Effect s (s.aluEv op dst b) := .rmwEv s dst _

theorem Effect.aluR8 (s : State) (op : Byte → Byte → Flags → Byte × Flags) (dst : Reg8) (b : Byte) :
    Effect s (s.aluR8 op dst b) := .aluEb s op (.reg dst) b

theorem Effect.aluR16 (s : State) (op : Word → Word → Flags → Word × Flags) (dst : Reg16) (b : Word) :
    Effect s (s.aluR16 op dst b) := .aluEv s op (.reg dst) b

theorem Effect.shiftEb (s : State) (op : ShiftOp) (count : Nat) (e : Eb) : Effect s (s.shiftEb op count e) :=
  .ite (.refl s) ((Effect.drew s).trans (.rmwEb _ e _))

theorem Effect.shiftEv (s : State) (op : ShiftOp) (count : Nat) (e : Ev) : Effect s (s.shiftEv op count e) :=
  .ite (.refl s) ((Effect.drew s).trans (.rmwEv _ e _))

theorem Effect.exchange8 (s : State) (r : Reg8) (e : Eb) : Effect s (s.exchange8 r e) :=
  ((Effect.gapEb s e).trans (.writeEb _ _ _)).trans (.setReg8 _ _ _)

theorem Effect.exchange16 (s : State) (r : Reg16) (e : Ev) : Effect s (s.exchange16 r e) :=
  ((Effect.gapEv s e).trans (.writeEv _ _ _)).trans (.setReg16 _ _ _)

theorem Effect.exchangeAx (s : State) (r : Reg16) : Effect s (s.exchangeAx r) :=
  (Effect.of_outer rfl : Effect s { s with ax := s.reg16 r }).trans (.setReg16 _ _ _)

theorem Effect.loadPointer (s : State) (r : SReg) (dst : Reg16) (m : MemOp) : Effect s (s.loadPointer r dst m) :=
  ((Effect.busGap s).trans (.setReg16 _ _ _)).trans (.setSreg _ _ _)

theorem Effect.asciiAdjust (s : State) (op : Byte → Byte → Byte) : Effect s (s.asciiAdjust op) :=
  .ite (.of_outer rfl) (.of_outer rfl)

/-! ### Control transfer and interrupts -/

theorem Effect.jumpNear (s : State) (off : Word) : Effect s (s.jumpNear off) where
  toMapKept := .of_view rfl
  pins := rfl
  nmi := rfl
  released := rfl
  unsampled := rfl
  beforeFetch := rfl
  running := id
  queue := Nat.zero_le _
  prefetched := Nat.zero_le _
  cut := rfl

theorem Effect.jumpFar (s : State) (base off : Word) : Effect s (s.jumpFar base off) :=
  (Effect.of_outer rfl : Effect s { s with cs := base }).trans (.jumpNear _ off)

theorem Effect.jumpIf (s : State) (c : Bool) (inc : Byte) : Effect s (s.jumpIf c inc) :=
  .ite (.jumpNear s _) (.refl s)

theorem Effect.loop (s : State) (c : Bool) (inc : Byte) : Effect s (s.countDown.jumpIf c inc) :=
  (Effect.of_outer rfl : Effect s s.countDown).trans (.jumpIf _ c inc)

theorem Effect.callFarTo (s : State) (base off : Word) : Effect s (s.callFarTo base off) :=
  (((Effect.push16 s s.cs).trans (.busGap _)).trans (.push16 _ _)).trans (.jumpFar _ _ _)

theorem Effect.returnFar (s : State) (n : Word) : Effect s (s.returnFar n) :=
  ((((Effect.drop16 s).trans (.busGap _)).trans (.drop16 _)).trans (.addSp _ n)).trans (.jumpFar _ _ _)

/-- Another run state than reset. -/
theorem Effect.then_run {s t : State} (h : Effect s t) {r : RunState} (hr : r ≠ .inReset) :
    Effect s { t with run := r } :=
  { h with toMapKept := h.toMapKept.upto rfl, running := fun _ => hr }

theorem Effect.takeInterrupt (s : State) (n : Byte) (ret : Word) : Effect s (s.takeInterrupt n ret) := by
  unfold State.takeInterrupt
  refine Effect.then_run (Effect.trans ?_ (.jumpFar _ _ _)) nofun
  have reads := (Effect.busGap s).trans (.busGap _)
  have flags := ((reads.trans (.busGap _)).trans (.push16 _ s.busGap.busGap.flags.toWord)).trans (.maskInterrupts _)
  exact ((flags.trans (.busGap _)).trans (.push16 _ _)).trans ((Effect.busGap _).trans (.push16 _ ret))

theorem Effect.raiseInterrupt (s : State) (n : Byte) : Effect s (s.raiseInterrupt n) :=
  (Effect.takeInterrupt s n s.ip).then_outer rfl

theorem Effect.returnFromInterrupt (s : State) : Effect s s.returnFromInterrupt := by
  have offset := (Effect.drop16 s).trans (.busGap _)
  have base := (offset.trans (.drop16 _)).trans (.busGap _)
  exact ((base.trans (.drop16 _)).trans (.setFlags _ _)).trans (.jumpFar _ _ _)

theorem Effect.divideError (s : State) : Effect s (s.divideFlags.raiseInterrupt 0) :=
  (Effect.of_outer rfl : Effect s s.divideFlags).trans (.raiseInterrupt _ 0)

theorem Effect.div8 (s : State) (b : Byte) : Effect s (s.div8 b) :=
  .ite (.divideError s) (.of_outer rfl)

theorem Effect.div16 (s : State) (b : Word) : Effect s (s.div16 b) :=
  .ite (.divideError s) (.of_outer rfl)

theorem Effect.idiv8 (s : State) (b : Byte) : Effect s (s.idiv8 b) :=
  .ite (.divideError s) (.of_outer rfl)

theorem Effect.idiv16 (s : State) (b : Word) : Effect s (s.idiv16 b) :=
  .ite (.divideError s) (.of_outer rfl)

theorem Effect.waitForTest (s : State) : Effect s s.waitForTest :=
  .ite (.refl s) (((Effect.refl s).then_run (r := .waiting s.ip) nofun).then_outer rfl)

/-! ### The instructions -/

/-- If the outcome is a next state, the instruction has had an effect and no other. -/
def Effects (s : State) (o : Outcome) : Prop := ∀ t, o = .next t → Effect s t

theorem Effects.next {s t : State} (h : Effect s t) : Effects s (.next t) := by
  rintro _ ⟨⟩
  exact h

theorem Effects.refused (s : State) (r : Refusal) : Effects s (.refused r) := by
  rintro _ ⟨⟩

/-- Every instruction has an effect, by its kind, or is one of the ten string instructions. -/
theorem exec_effects (i : Instr) (s : State) : Effects s (exec i s) ∨ ∃ p, exec i s = .next (s.repeatString p) := by
  cases i with
  | addEbGb | addEbIb | addEbIb82 | adcEbGb | adcEbIb | adcEbIb82 | sbbEbGb | sbbEbIb | sbbEbIb82
  | subEbGb | subEbIb | subEbIb82 => exact .inl (.next (.aluEb s _ _ _))
  | addGbEb | addAlIb | adcGbEb | adcAlIb | sbbGbEb | sbbAlIb | subGbEb | subAlIb =>
    exact .inl (.next (.aluR8 s _ _ _))
  | addEvGv | addEvIv | addEvIs | adcEvGv | adcEvIv | adcEvIs | sbbEvGv | sbbEvIv | sbbEvIs
  | subEvGv | subEvIv | subEvIs => exact .inl (.next (.aluEv s _ _ _))
  | addGvEv | addAxIv | adcGvEv | adcAxIv | sbbGvEv | sbbAxIv | subGvEv | subAxIv =>
    exact .inl (.next (.aluR16 s _ _ _))
  | orEbGb | orEbIb | andEbGb | andEbIb | xorEbGb | xorEbIb =>
    exact .inl (.next ((Effect.drew s).trans (.aluEb _ _ _ _)))
  | orGbEb | orAlIb | andGbEb | andAlIb | xorGbEb | xorAlIb =>
    exact .inl (.next ((Effect.drew s).trans (.aluR8 _ _ _ _)))
  | orEvGv | orEvIv | andEvGv | andEvIv | xorEvGv | xorEvIv =>
    exact .inl (.next ((Effect.drew s).trans (.aluEv _ _ _ _)))
  | orGvEv | orAxIv | andGvEv | andAxIv | xorGvEv | xorAxIv =>
    exact .inl (.next ((Effect.drew s).trans (.aluR16 _ _ _ _)))
  | incEb | decEb | negEb | notEb => exact .inl (.next (.rmwEb s _ _))
  | incR16 | decR16 | incEv | decEv | negEv | notEv => exact .inl (.next (.rmwEv s _ _))
  | rolEb1 | rorEb1 | rclEb1 | rcrEb1 | shlEb1 | shrEb1 | sarEb1
  | rolEbCl | rorEbCl | rclEbCl | rcrEbCl | shlEbCl | shrEbCl | sarEbCl => exact .inl (.next (.shiftEb s _ _ _))
  | rolEv1 | rorEv1 | rclEv1 | rcrEv1 | shlEv1 | shrEv1 | sarEv1
  | rolEvCl | rorEvCl | rclEvCl | rcrEvCl | shlEvCl | shrEvCl | sarEvCl => exact .inl (.next (.shiftEv s _ _ _))
  | cmpEbGb | cmpEvGv | cmpGbEb | cmpGvEv | cmpAlIb | cmpAxIv | cmpEbIb | cmpEvIv | cmpEbIb82 | cmpEvIs
  | testEbGb | testEvGv | testAlIb | testAxIv | testEbIb | testEvIv
  | cmc | clc | stc | cli | sti | cld | std | sahf | popf
  | mulEb | mulEv | imulEb | imulEv | aam | aad | cbw | cwd | movAxMem
  | outIbAl | outDxAl | nop | segEs | segCs | segSs | segDs | lock | repne | rep => exact .inl (.next (.of_outer rfl))
  | daa | das => exact .inl (.next (.of_outer rfl))
  | movGbEb | movAlMem | movR8Ib | xlat | lahf => exact .inl (.next (.setReg8 s _ _))
  | movGvEv | movR16Iv | lea => exact .inl (.next (.setReg16 s _ _))
  | popR16 => exact .inl (.next ((Effect.drop16 s).trans (.setReg16 _ _ _)))
  | popEv => exact .inl (.next (((Effect.drop16 s).trans (.gapEv _ _)).trans (.writeEv _ _ _)))
  | popEs | popSs | popDs => exact .inl (.next ((Effect.drop16 s).trans (.loadSeg _ _ _)))
  | movEsEv | movSsEv | movDsEv => exact .inl (.next (.loadSeg s _ _))
  | movEbGb | movEbIb => exact .inl (.next (.writeEb s _ _))
  | movEvGv | movEvSeg | movEvIv => exact .inl (.next (.writeEv s _ _))
  | movMemAl => exact .inl (.next (.write8 s _ _ _))
  | movMemAx => exact .inl (.next (.write16 s _ _ _))
  | pushR16 | pushEs | pushCs | pushSs | pushDs | pushf => exact .inl (.next (.push16 s _))
  | pushEv => exact .inl (.next (.pushOperand s _))
  | xchgGbEb => exact .inl (.next (.exchange8 s _ _))
  | xchgGvEv => exact .inl (.next (.exchange16 s _ _))
  | xchgAxCx | xchgAxDx | xchgAxBx | xchgAxSp | xchgAxBp | xchgAxSi | xchgAxDi =>
    exact .inl (.next (.exchangeAx s _))
  | les | lds => exact .inl (.next (.loadPointer s _ _ _))
  | inAlIb | inAlDx => exact .inl (.next (.inByte s _))
  | inAxIb | inAxDx => exact .inl (.next (.inWord s _))
  | outIbAx | outDxAx => exact .inl (.next (.ioWordWrite s _ _))
  | aaa | aas => exact .inl (.next (.asciiAdjust s _))
  | divEb => exact .inl (.next (.div8 s _))
  | divEv => exact .inl (.next (.div16 s _))
  | idivEb => exact .inl (.next (.idiv8 s _))
  | idivEv => exact .inl (.next (.idiv16 s _))
  | jo | jno | jb | jnb | je | jne | jbe | jnbe | js | jns | jp | jnp | jl | jnl | jle | jnle | jcxz =>
    exact .inl (.next (.jumpIf s _ _))
  | loop | loope | loopne => exact .inl (.next (.loop s _ _))
  | jmpNear | jmpShort | jmpEv => exact .inl (.next (.jumpNear s _))
  | jmpFar => exact .inl (.next (.jumpFar s _ _))
  | jmpMem32 => exact .inl (.next ((Effect.busGap s).trans (.jumpFar _ _ _)))
  | callNear => exact .inl (.next ((Effect.push16 s _).trans (.jumpNear _ _)))
  | callEv => exact .inl (.next (((Effect.gapEv s _).trans (.push16 _ _)).trans (.jumpNear _ _)))
  | callFar => exact .inl (.next (.callFarTo s _ _))
  | callMem32 => exact .inl (.next (((Effect.busGap s).trans (.busGap _)).trans (.callFarTo _ _ _)))
  | ret => exact .inl (.next ((Effect.drop16 s).trans (.jumpNear _ _)))
  | retPop => exact .inl (.next (((Effect.drop16 s).trans (.addSp _ _)).trans (.jumpNear _ _)))
  | retf | retfPop => exact .inl (.next (.returnFar s _))
  | intIb | int3 => exact .inl (.next (.raiseInterrupt s _))
  | into => exact .inl (.next (.ite (.raiseInterrupt s 4) (.refl s)))
  | iret => exact .inl (.next (.returnFromInterrupt s))
  | hlt => exact .inl (.next ((Effect.refl s).then_run nofun))
  | wait => exact .inl (.next (.waitForTest s))
  | esc => exact .inl (.next (.dummyRead s _))
  | movsb | movsw | cmpsb | cmpsw | stosb | stosw | lodsb | lodsw | scasb | scasw => exact .inr ⟨_, rfl⟩
  | _ => exact .inl (.refused s _)

end Sys2Proof.Proofs
end

section
/-! PROOFS. Stores and the memory map (spec/20_memory.md R54, R63): a byte and a word stored by MOV, and what no step
changes; obligation O56. -/
namespace Sys2Proof.Proofs
open Sys2Proof Sys2Proof.Machine

/-! ### Sampling and waiting for the bus -/

theorem MapKept.prefetch (s : State) (n : Nat) : MapKept s (s.prefetch n) := by
  unfold State.prefetch
  split <;> exact .of_view rfl

theorem MapKept.advance (s : State) (n : Nat) : MapKept s (s.advance n) :=
  (MapKept.prefetch s n).upto rfl

theorem MapKept.refetchWait (s : State) : MapKept s s.refetchWait := by
  obtain ⟨k, d, heard, h⟩ := s.refetchWait_spec
  exact h ▸ .of_view rfl

theorem MapKept.takeSampled (s : State) (n : Byte) : MapKept s (s.takeSampled n) :=
  (Effect.takeInterrupt (s.setLock false) n s.ip).toMapKept.since rfl

theorem MapKept.takeExternal (s : State) : MapKept s s.takeExternal.1 := by
  unfold State.takeExternal
  split
  · exact (MapKept.takeSampled { s with nmiPending := false } 2).since rfl
  · split
    · exact (MapKept.takeSampled s.acknowledged _).since rfl
    · exact .refl s

theorem MapKept.sample (s : State) (tf0 seq : Bool) : MapKept s (s.sample tf0 seq).1 := by
  unfold State.sample
  dsimp only
  split
  · exact (MapKept.takeExternal s).trans (.takeSampled _ 1)
  · exact .takeExternal s

theorem MapKept.sampleAfterHold (s : State) (tf0 seq : Bool) : MapKept s (s.sampleAfterHold tf0 seq) := by
  unfold State.sampleAfterHold
  dsimp only
  split
  · exact .of_view rfl
  · exact (MapKept.refetchWait s).trans (.sample _ _ _)

theorem MapKept.samplePutOff (s : State) (w : Sampling) : MapKept s (s.samplePutOff w) := by
  unfold State.samplePutOff
  dsimp only
  split
  · have taken := (MapKept.refetchWait { s with unsampled := none }).trans (.sample _ w.tf0 w.seq)
    exact MapKept.since (taken.upto rfl) rfl
  · exact .of_view rfl

theorem MapKept.awaitBus (n : Nat) (s : State) : MapKept s (State.awaitBus n s) := by
  induction n generalizing s with
  | zero => unfold State.awaitBus; split <;> exact .of_view rfl
  | succ n ih =>
    unfold State.awaitBus
    split
    · exact .of_view rfl
    · exact ((MapKept.look _).trans (ih _)).since rfl

/-! ### Repeated strings -/

theorem MapKept.sampleRepetition (s : State) : MapKept s s.sampleRepetition := by
  unfold State.sampleRepetition
  dsimp only
  split
  · exact .of_view rfl
  · split
    · exact .of_view rfl
    · split
      · have taken := MapKept.sample { s with ip := s.cur.ipPrefix } s.cur.tf0 false
        exact MapKept.since (taken.upto rfl) rfl
      · exact .refl s

theorem MapKept.betweenRepetitions (s : State) : MapKept s s.betweenRepetitions := by
  have await := (MapKept.look s).trans (.awaitBus s.look.outside.length _)
  unfold State.betweenRepetitions
  dsimp only
  split
  · refine await.trans (MapKept.since (t := State.setLock _ false) ?_ rfl)
    split
    · exact (MapKept.awaitBus _ _).trans (.sampleRepetition _)
    · exact ((MapKept.awaitBus _ _).trans (.sampleRepetition _)).upto rfl
  · exact await.trans (.sampleRepetition _)

theorem Effect.stepSi (s : State) (n : Word) : Effect s (s.stepSi n) := .of_outer rfl

theorem Effect.stepDi (s : State) (n : Word) : Effect s (s.stepDi n) := .of_outer rfl

theorem Effect.stringOnce (s : State) (p : Primitive) : Effect s (s.stringOnce p) := by
  cases p with
  | movsb => exact (((Effect.busGap s).trans (.write8 _ _ _ _)).trans (.stepSi _ 1)).trans (.stepDi _ 1)
  | movsw => exact (((Effect.busGap s).trans (.write16 _ _ _ _)).trans (.stepSi _ 2)).trans (.stepDi _ 2)
  | cmpsb => exact (((Effect.busGap s).trans (.setFlags _ _)).trans (.stepSi _ 1)).trans (.stepDi _ 1)
  | cmpsw => exact (((Effect.busGap s).trans (.setFlags _ _)).trans (.stepSi _ 2)).trans (.stepDi _ 2)
  | scasb => exact (Effect.setFlags s _).trans (.stepDi _ 1)
  | scasw => exact (Effect.setFlags s _).trans (.stepDi _ 2)
  | lodsb => exact (Effect.setReg8 s _ _).trans (.stepSi _ 1)
  | lodsw => exact (Effect.setReg16 s .ax _).trans (.stepSi _ 2)
  | stosb => exact (Effect.write8 s _ _ _).trans (.stepDi _ 1)
  | stosw => exact (Effect.write16 s _ _ _).trans (.stepDi _ 2)

/-- One turn of the loop of R196, before the outside is looked at. -/
theorem Effect.repetition (s : State) (p : Primitive) : Effect s (s.stringOnce p).countDown :=
  (Effect.stringOnce s p).then_outer rfl

theorem MapKept.repetitions (p : Primitive) (z : Bool) (n : Nat) (s : State) :
    MapKept s (State.repetitions p z n s) := by
  induction n generalizing s with
  | zero => exact .refl s
  | succ n ih =>
    have once := (Effect.repetition s p).toMapKept
    unfold State.repetitions
    dsimp only
    split
    · exact once
    · split
      · exact once
      · split
        · exact once.trans (.betweenRepetitions _)
        · exact (once.trans (.betweenRepetitions _)).trans (ih _)

theorem MapKept.repeatString (s : State) (p : Primitive) : MapKept s (s.repeatString p) := by
  unfold State.repeatString
  split
  · exact (Effect.stringOnce s p).toMapKept
  · exact .repetitions p _ _ s

/-! ### A whole step -/

theorem MapKept.exec {i : Instr} {s t : State} (h : exec i s = .next t) : MapKept s t := by
  rcases exec_effects i s with he | ⟨p, hp⟩
  · exact (he t h).toMapKept
  · obtain rfl : s.repeatString p = t := by simpa [hp] using h
    exact .repeatString s p

/-- What one instruction with its prefixes leaves is what it begins with followed by what it does. -/
theorem MapKept.runInstr {n : Nat} {s t : State} (h : s.runInstr n = .next t) : MapKept s t := by
  induction n generalizing s with
  | zero =>
    obtain rfl := by simpa only [State.runInstr, Host.Outcome.next.injEq] using h
    exact .of_view rfl
  | succ n ih =>
    unfold State.runInstr at h
    split at h
    · contradiction
    · split at h
      next u hu =>
        have one := (MapKept.advance s _).trans (.exec hu)
        split at h
        · exact one.trans (ih h)
        · obtain rfl := by simpa only [Host.Outcome.next.injEq] using h
          exact one
      all_goals contradiction

theorem MapKept.sampleEnd (s : State) : MapKept s s.sampleEnd := by
  unfold State.sampleEnd
  split
  · exact .refl s
  · exact .sampleAfterHold s _ _

/-- The queue after an instruction, discarded or kept as it was prefetched. -/
theorem MapKept.endQueue (t before : State) :
    MapKept t (if t.cur.jumped then { t with queue := [], prefetched := 0 } else t.keepPrefetched before) := by
  split
  · exact .of_view rfl
  · exact .keepPrefetched t before

theorem MapKept.finish (t before : State) : MapKept t (t.finish before) := by
  have queue := MapKept.endQueue t before
  unfold State.finish
  dsimp only
  generalize (if t.cur.jumped then { t with queue := [], prefetched := 0 } else t.keepPrefetched before) = u at queue
  generalize hv : u.setLock u.lockAfter = v
  have lock : MapKept t v := hv ▸ queue.upto rfl
  refine MapKept.upto (t := if v.cur.cut then v
    else if v.inhibitInt then { v with inhibitInt := false } else v.hear.sampleEnd) ?_ rfl
  split
  · exact lock
  · split
    · exact lock.upto rfl
    · exact (lock.trans (.hear v)).trans (.sampleEnd _)

theorem MapKept.runStep {s t : State} (h : s.runStep = .next t) : MapKept s t := by
  unfold State.runStep at h
  split at h
  next u hu =>
    obtain rfl := by simpa only [Host.Outcome.next.injEq] using h
    exact ((MapKept.runInstr hu).trans (.finish u s)).since rfl
  all_goals contradiction

theorem MapKept.endWait (s : State) (next : Word) : MapKept s (s.endWait next) :=
  (MapKept.sampleAfterHold { s.setLock false with run := .running, ip := next } s.flags.tF false).since rfl

theorem MapKept.idleWait (s : State) (next : Word) : MapKept s (s.idleWait next) := by
  refine MapKept.upto (t := if s.pins.testLow then s.endWait next else s.sampleAfterHold false false) ?_ rfl
  split
  · exact .endWait s next
  · exact .sampleAfterHold s false false

theorem MapKept.idleHeld (s : State) : MapKept s s.idleHeld := by
  unfold State.idleHeld
  split
  · split
    · exact .endWait s _
    · exact .refl s
  · exact .refl s

/-- No step changes the memory map or ROM, and with a quiet platform no step changes a byte that is not RAM (R63). -/
theorem step_mapKept {s t : State} (h : step s = .next t) : MapKept s t := by
  refine (MapKept.hear s).trans ?_
  unfold step State.cycle at h
  generalize s.hear = s at h
  dsimp only at h
  split at h
  · obtain rfl := by simpa only [Host.Outcome.next.injEq] using h
    exact .of_view rfl
  · split at h
    · obtain rfl := by simpa only [Host.Outcome.next.injEq] using h
      exact .of_view rfl
    · split at h
      next m _ =>
        obtain rfl := by simpa only [Host.Outcome.next.injEq] using h
        exact (MapKept.idleHeld (s.release m)).since rfl
      · refine MapKept.since (t := s.regain) ?_ rfl
        split at h
        next w _ =>
          obtain rfl := by simpa only [Host.Outcome.next.injEq] using h
          exact .samplePutOff _ w
        · split at h
          · obtain rfl := by simpa only [Host.Outcome.next.injEq] using h
            exact (MapKept.sampleAfterHold s.regain false false).upto rfl
          · obtain rfl := by simpa only [Host.Outcome.next.injEq] using h
            exact .idleWait _ _
          · exact .runStep h
          · exact .runStep h

/-! ### MOV to a direct address -/

/-- A byte is kept, heard or lost by what the memory map has at its address (R63). -/
theorem store_eq (s : State) (a : Nat) (v : Byte) : s.store a v =
    match s.params.kindAt a with
    | .ram => { s with mem := Memory.write s.mem a v }
    | .device => { s with trace := .memWrite8 a v :: s.trace }
    | .rom | .nothing => s := by
  cases h : s.params.kindAt a with
  | ram => exact State.store_of_ram h v
  | device => exact State.store_of_device h v
  | rom => exact State.store_of_lost (.inl h) v
  | nothing => exact State.store_of_lost (.inr h) v

theorem wideCycle_iff (p : Params) (a : Nat) : p.wideCycle a = true ↔ p.variant = .i8086 ∧ a % 2 = 0 := by
  simp [Params.wideCycle]

/-- A word for a device is heard in one bus cycle, or in two with the low byte first, and changes no memory (R54, R63). -/
theorem write16_of_device {s : State} {base off : Word} (v : Word) (ha : s.params.kindAt (phys base off) = .device)
    (hb : s.params.kindAt (phys base (off + 1)) = .device) : s.write16 base off v = { s with
      trace := (if s.params.variant = .i8086 ∧ phys base off % 2 = 0 then [.memWrite16 (phys base off) v]
        else [.memWrite8 (phys base (off + 1)) (hiByte v), .memWrite8 (phys base off) (loByte v)]) ++ s.trace } := by
  simp only [State.write16, Memory.store, Params.heardWord, Params.heard, wideCycle_iff, ha, hb, reduceCtorEq, if_true,
    if_false, and_true, List.cons_append, List.nil_append]

/-- Settles O56: the first two clauses from what becomes of a byte and of a word, the third from the step lemma. -/
theorem storesFollowTheMemoryMap : Obligations.StoresFollowTheMemoryMap := by
  refine ⟨?byte, ?word, ?step⟩
  case byte =>
    rintro s off a rfl
    exact congrArg Host.Outcome.next (store_eq s _ _)
  case word =>
    rintro s off a b rfl rfl ha hb
    exact congrArg Host.Outcome.next (write16_of_device s.ax ha hb)
  case step =>
    intro s t a h
    have kept := step_mapKept h
    exact ⟨kept.params, kept.rom a, fun hq => kept.fixed hq a⟩

end Sys2Proof.Proofs
end

section
/-! PROOFS. What a look at the outside may do, and which masters ask for the bus (spec/20_memory.md R62;
spec/70_reset_and_hazards.md R310, R312). -/
namespace Sys2Proof.Proofs
open Sys2Proof Sys2Proof.Machine

/-! ### The masters that ask -/

/-- Whether the pins say that a master asks for the bus (R3, R62). -/
def asks (mode : BusMode) (p : Pins) (m : BusMaster) : Prop :=
  match m with
  | .hold => mode = .minimum ∧ p.hold = true
  | .line .gt0 => mode = .maximum ∧ p.rq0 = true
  | .line .gt1 => mode = .maximum ∧ p.rq1 = true

theorem mem_busRequests {s : State} {m : BusMaster} : m ∈ s.busRequests ↔ asks s.params.busMode s.pins m := by
  unfold State.busRequests
  cases s.params.busMode <;> rcases m with _ | _ | _ <;> simp [asks]

/-- In minimum mode HOLD is the one request (R3). -/
theorem busRequest_of_minimum {s : State} (h : s.params.busMode = .minimum) :
    s.busRequest = if s.pins.hold then some .hold else none := by
  simp only [State.busRequest, h]

/-- In maximum mode RQ*/GT0* comes first, unless RQ*/GT1* has the bus (R62). -/
theorem busRequest_of_maximum {s : State} (h : s.params.busMode = .maximum) :
    s.busRequest =
      if s.pins.rq1 && s.busReleased == some (.line .gt1) then some (.line .gt1)
      else if s.pins.rq0 then some (.line .gt0)
      else if s.pins.rq1 then some (.line .gt1)
      else none := by
  simp only [State.busRequest, h]

/-- The master that is given the bus is the one to keep it (R62). -/
theorem busRequest_release {s : State} {m : BusMaster} (h : s.busRequest = some m) :
    (s.release m).busRequest = some m := by
  cases hmode : s.params.busMode with
  | minimum => exact (busRequest_of_minimum (s := s.release m) hmode).trans ((busRequest_of_minimum hmode).symm.trans h)
  | maximum =>
    rw [busRequest_of_maximum (s := s.release m) hmode, State.release_pins, State.release_busReleased]
    rw [busRequest_of_maximum hmode] at h
    split at h
    next h1 => cases h; simp_all
    next =>
      split at h
      next h0 => cases h; simp [h0]
      next h0 =>
        split at h
        next h1 => cases h; simp [h1]
        next => contradiction

theorem heldBy_eq_some {s : State} {m : BusMaster} :
    s.heldBy = some m ↔ s.lock = false ∧ s.resetAsked = false ∧ s.busRequest = some m := by
  unfold State.heldBy
  cases s.lock <;> cases s.resetAsked <;> simp

theorem heldBy_release {s : State} {m : BusMaster} (h : s.heldBy = some m) : (s.release m).heldBy = some m := by
  obtain ⟨hlock, hreset, hasked⟩ := heldBy_eq_some.1 h
  exact heldBy_eq_some.2 ⟨hlock, hreset, busRequest_release hasked⟩

/-- A bus that nobody is to have stays the CPU's when it has come back (R62). -/
theorem heldBy_regain {s : State} (h : s.heldBy = none) : s.regain.heldBy = none := by
  unfold State.heldBy at h ⊢
  split at h
  · rename_i hc
    exact if_pos hc
  · rename_i hc
    rw [State.busRequest_eq_none] at h
    exact (if_neg hc).trans (State.busRequest_eq_none.2 h)

/-! ### What a look may do -/

/-- While RESET is high neither an NMI nor a request pulse is remembered (R312). -/
def PinsOk (s : State) : Prop :=
  s.pins.reset = true → s.nmiPending = false ∧ s.pins.rq0 = false ∧ s.pins.rq1 = false

/-- Every master that comes before the first fetch still asks, unless RESET has risen since (R310, R312). -/
def StillAsk (s : State) : Prop := s.resetSeen = true ∨ ∀ m ∈ s.beforeFetch, m ∈ s.busRequests

/-- What the platform and other masters may do in one look: they change memory other than ROM and the pins, and may take
back their requests for the bus, but nothing of what the CPU is doing. -/
structure Heard (s t : State) : Prop extends RomKept s t where
  run : t.run = s.run
  unsampled : t.unsampled = s.unsampled
  queue : t.queue = s.queue
  prefetched : t.prefetched = s.prefetched
  cur : t.cur = s.cur
  inhibitInt : t.inhibitInt = s.inhibitInt
  released : s.busReleased = none → t.busReleased = none
  beforeFetch : s.beforeFetch = [] → t.beforeFetch = []
  pins : PinsOk s → PinsOk t
  stillAsk : PinsOk s → StillAsk s → StillAsk t

theorem Heard.trans {s t u : State} (h : Heard s t) (k : Heard t u) : Heard s u where
  toRomKept := h.toRomKept.trans k.toRomKept
  run := k.run.trans h.run
  unsampled := k.unsampled.trans h.unsampled
  queue := k.queue.trans h.queue
  prefetched := k.prefetched.trans h.prefetched
  cur := k.cur.trans h.cur
  inhibitInt := k.inhibitInt.trans h.inhibitInt
  released := k.released ∘ h.released
  beforeFetch := k.beforeFetch ∘ h.beforeFetch
  pins := k.pins ∘ h.pins
  stillAsk := fun hp ha => k.stillAsk (h.pins hp) (h.stillAsk hp ha)

/-- What a look leaves alone, as one value. -/
def inner (s : State) : RunState × Option Sampling × List (Option Byte) × Nat × Progress × Bool :=
  (s.run, s.unsampled, s.queue, s.prefetched, s.cur, s.inhibitInt)

theorem Heard.of_inner {s t : State} (hrom : RomKept s t) (hinner : inner t = inner s)
    (hreleased : s.busReleased = none → t.busReleased = none) (hfirst : s.beforeFetch = [] → t.beforeFetch = [])
    (hpins : PinsOk s → PinsOk t) (hask : PinsOk s → StillAsk s → StillAsk t) : Heard s t := by
  simp only [inner, Prod.mk.injEq] at hinner
  obtain ⟨hrun, hunsampled, hqueue, hprefetched, hcur, hinhibit⟩ := hinner
  exact ⟨hrom, hrun, hunsampled, hqueue, hprefetched, hcur, hinhibit, hreleased, hfirst, hpins, hask⟩

/-- A change that touches neither the pins nor a request. -/
theorem Heard.of_rom {s t : State} (hrom : RomKept s t) (hinner : inner t = inner s)
    (hreleased : t.busReleased = s.busReleased) (hfirst : t.beforeFetch = s.beforeFetch) (hpins : t.pins = s.pins)
    (hnmi : t.nmiPending = s.nmiPending) (hseen : t.resetSeen = s.resetSeen) : Heard s t := by
  refine .of_inner hrom hinner (hreleased.trans ·) (hfirst.trans ·) ?pins fun _ => ?asks
  case pins => simp only [PinsOk, hpins, hnmi, imp_self]
  case asks => simp only [StillAsk, mem_busRequests, hseen, hfirst, hrom.params, hpins, imp_self]

theorem Heard.refl (s : State) : Heard s s := .of_rom (.of_same rfl rfl) rfl rfl rfl rfl rfl rfl

/-- A master that takes its request back neither has the bus nor comes first any more; all others go on asking. -/
theorem Heard.giveBack (s : State) (m : BusMaster) : Heard s (s.giveBack m) := by
  refine .of_inner (.of_same rfl rfl) rfl ?released ?first id fun _ => Or.imp id ?asks
  case released => exact fun h => by simp [State.giveBack, h]
  case first => exact fun h => by simp [State.giveBack, h]
  case asks => exact fun h k hk => h k (State.mem_giveBack_beforeFetch.1 hk).1

/-- New levels on the request pins: they may fall for masters alone that do not come first. -/
theorem Heard.setPins {s t : State} {p : Pins} (ht : t = { s with pins := p }) (hreset : p.reset = s.pins.reset)
    (hpulse : s.pins.reset = true → s.pins.rq0 = false → s.pins.rq1 = false → p.rq0 = false ∧ p.rq1 = false)
    (hask : PinsOk s → ∀ m ∈ s.beforeFetch, asks s.params.busMode s.pins m → asks s.params.busMode p m) :
    Heard s t := by
  subst ht
  refine .of_inner (.of_same rfl rfl) rfl id id ?pins fun hp => Or.imp id ?asks
  case pins =>
    intro hp hr
    obtain ⟨hnmi, h0, h1⟩ := hp (hreset ▸ hr)
    exact ⟨hnmi, hpulse (hreset ▸ hr) h0 h1⟩
  case asks =>
    intro h m hm
    exact mem_busRequests.2 (hask hp m hm (mem_busRequests.1 (h m hm)))

theorem Heard.holdLevel (s : State) (request : Bool) : Heard s (s.holdLevel request) := by
  cases request with
  | true =>
    refine .setPins (s.holdLevel_eq true) rfl (fun _ h0 h1 => ⟨h0, h1⟩) fun _ m _ h => ?_
    rcases m with _ | _ | _
    · exact ⟨h.1, rfl⟩
    · exact h
    · exact h
  | false =>
    refine (Heard.giveBack s .hold).trans (.setPins (s.holdLevel_eq false) rfl (fun _ h0 h1 => ⟨h0, h1⟩)
      fun _ m hm h => ?_)
    rcases m with _ | _ | _
    · exact absurd rfl (State.mem_giveBack_beforeFetch.1 hm).2
    · exact h
    · exact h

/-- A master that asks with a pulse does so while RESET is low (R312). -/
theorem reset_low_of_asks {s : State} {mode : BusMode} {l : GrantLine} (hp : PinsOk s)
    (h : asks mode s.pins (.line l)) : s.pins.reset = false := by
  refine Bool.eq_false_iff.2 fun hr => ?_
  obtain ⟨-, h0, h1⟩ := hp hr
  cases l with
  | gt0 => exact absurd (h0.symm.trans h.2) (by decide)
  | gt1 => exact absurd (h1.symm.trans h.2) (by decide)

theorem Heard.rqPulse (s : State) (line : GrantLine) (request : Bool) : Heard s (s.rqPulse line request) := by
  cases request with
  | true =>
    refine .setPins (s.rqPulse_eq line true) rfl (fun hr h0 h1 => by simp [hr, h0, h1]) fun hp m _ h => ?_
    rcases m with _ | _ | _
    · exact h
    all_goals
      have hlow := reset_low_of_asks hp h
      obtain ⟨hmode, hrq⟩ := h
      exact ⟨hmode, by simp [hlow, hrq]⟩
  | false =>
    refine (Heard.giveBack s (.line line)).trans (.setPins (s.rqPulse_eq line false) rfl
      (fun _ h0 h1 => by simp_all) fun _ m hm h => ?_)
    have hother := (State.mem_giveBack_beforeFetch.1 hm).2
    rcases m with _ | _ | _
    · exact h
    all_goals
      have hline : line ≠ _ := fun e => hother (congrArg BusMaster.line e.symm)
      obtain ⟨hmode, hrq⟩ := h
      exact ⟨hmode, by rw [if_neg hline]; exact hrq⟩

/-- RESET that rises is remembered; then no master needs to ask any more. One that is high already has left no request. -/
theorem Heard.resetLevel (s : State) (high : Bool) : Heard s (s.resetLevel high) := by
  refine .of_inner (.of_same rfl rfl) rfl id id ?pins fun hp => ?asks
  case pins => exact fun _ hr => by simp_all [State.resetLevel]
  case asks =>
    rintro (h | h)
    · exact .inl (by simp [State.resetLevel, h])
    · cases high with
      | false => exact .inr fun m hm => mem_busRequests.2 (by
          have := mem_busRequests.1 (h m hm)
          rcases m with _ | _ | _ <;> simpa [asks, State.resetLevel] using this)
      | true =>
        cases hr : s.pins.reset with
        | false => exact .inl (by simp [State.resetLevel, hr])
        | true =>
          obtain ⟨-, h0, h1⟩ := hp hr
          exact .inr fun m hm => mem_busRequests.2 (by
            have := mem_busRequests.1 (h m hm)
            rcases m with _ | _ | _
            · exact this
            · exact absurd (h0.symm.trans this.2) (by decide)
            · exact absurd (h1.symm.trans this.2) (by decide))

theorem Heard.pinEvent (s : State) (e : PinEvent) : Heard s (s.pinEvent e) := by
  cases e with
  | nmiEdge =>
    refine .of_inner (.of_same rfl rfl) rfl id id (fun hp hr => ?_) fun _ => id
    obtain ⟨hnmi, hrq⟩ := hp hr
    exact ⟨by simp [hnmi, show s.pins.reset = true from hr], hrq⟩
  | intr | test => exact .setPins rfl rfl (fun _ h0 h1 => ⟨h0, h1⟩) fun _ m _ h => by rcases m with _ | _ | _ <;> exact h
  | reset high => exact .resetLevel s high
  | hold request => exact .holdLevel s request
  | rq line request => exact .rqPulse s line request
  | shows a v => exact .of_rom (.pinEvent s (.shows a v)) rfl rfl rfl rfl rfl rfl

theorem Heard.pinEvents (s : State) (es : List PinEvent) : Heard s (es.foldl State.pinEvent s) := by
  induction es generalizing s with
  | nil => exact .refl s
  | cons e es ih => exact (Heard.pinEvent s e).trans (ih _)

theorem Heard.nextEvents (s : State) : Heard s s.nextEvents := by
  unfold State.nextEvents
  split
  next => exact .refl s
  next es rest _ =>
    exact Heard.trans (t := { s with outside := rest }) (.of_rom (.of_same rfl rfl) rfl rfl rfl rfl rfl rfl)
      (.pinEvents _ es)

theorem Heard.busGap (s : State) : Heard s s.busGap :=
  .of_rom (MapKept.busGap s).toRomKept (by simp [inner]) (by simp) (by simp) (by simp) (by simp) (by simp)

theorem Heard.look (s : State) : Heard s s.look := (Heard.nextEvents s).trans (.busGap _)

end Sys2Proof.Proofs
end

section
/-! PROOFS. The invariant through a step: what holds while the CPU works, what an instruction may leave, and
obligation O55. -/
namespace Sys2Proof.Proofs
open Sys2Proof Sys2Proof.Machine

/-! ### The CPU at work -/

/-- The CPU has the bus, nothing waits for it, and it is not in reset. -/
structure Free (s : State) : Prop where
  canonical : Memory.wf s.mem
  settled : s.settled
  running : s.run ≠ .inReset
  pins : PinsOk s

/-- As `Free`, with a queue that holds no more than it has room for (R33). -/
structure Working (s : State) : Prop extends Free s where
  queue : s.queue.length ≤ s.queueSize
  prefetched : s.prefetched ≤ s.queueSize

theorem queueSize_congr {s t : State} (h : t.params = s.params) : t.queueSize = s.queueSize := by
  simp only [State.queueSize, h]

/-- Between steps, a CPU that is at work meets the invariant. -/
theorem Working.inv {s : State} (h : Working s) (hcur : s.cur = .idle) (hi : s.inhibitInt = false) : s.Inv :=
  inv_of_settled h.settled h.canonical hcur hi h.queue h.prefetched (fun hr => absurd hr h.running) h.pins

theorem Working.inv_idle {s : State} (h : Working s) (hi : s.inhibitInt = false) : ({ s with cur := .idle } : State).Inv :=
  Working.inv { h with } rfl hi

theorem Free.effect {s t : State} (h : Free s) (he : Effect s t) : Free t where
  canonical := he.canonical h.canonical
  settled := ⟨he.released.trans h.settled.1, he.unsampled.trans h.settled.2.1, he.beforeFetch.trans h.settled.2.2⟩
  running := he.running h.running
  pins := by simpa only [PinsOk, he.pins, he.nmi] using h.pins

theorem Working.effect {s t : State} (h : Working s) (he : Effect s t) : Working t where
  toFree := h.toFree.effect he
  queue := queueSize_congr he.params ▸ he.queue.trans h.queue
  prefetched := queueSize_congr he.params ▸ he.prefetched.trans h.prefetched

theorem Free.heard {s t : State} (h : Free s) (hl : Heard s t) : Free t where
  canonical := hl.canonical h.canonical
  settled := ⟨hl.released h.settled.1, hl.unsampled.trans h.settled.2.1, hl.beforeFetch h.settled.2.2⟩
  running := hl.run ▸ h.running
  pins := hl.pins h.pins

theorem Working.heard {s t : State} (h : Working s) (hl : Heard s t) : Working t where
  toFree := h.toFree.heard hl
  queue := by rw [queueSize_congr hl.params, hl.queue]; exact h.queue
  prefetched := by rw [queueSize_congr hl.params, hl.prefetched]; exact h.prefetched

/-- The bytes prefetched before a store are as many as the queue holds (R33, R58). -/
theorem keepPrefetched_spec (t s : State) : ∃ q d, t.keepPrefetched s = { t with queue := q, drawn := d } ∧
    (t.queue.length ≤ t.queueSize → q.length ≤ t.queueSize) := by
  unfold State.keepPrefetched
  split
  · exact ⟨t.queue, t.drawn, rfl, id⟩
  · exact ⟨_, _, rfl, fun _ => by simp⟩

theorem Working.keepPrefetched {t : State} (h : Working t) (s : State) : Working (t.keepPrefetched s) := by
  obtain ⟨q, d, he, hq⟩ := keepPrefetched_spec t s
  rw [he]
  exact { h with queue := hq h.queue }

theorem Working.hear {s : State} (h : Working s) : Working s.hear := by
  rw [State.hear_eq, h.settled.2.2]
  exact (h.heard (.look s)).keepPrefetched s

theorem Working.setLock {s : State} (h : Working s) (on : Bool) : Working (s.setLock on) := { h with }

/-! ### Sampling -/

/-- An interrupt sequence needs the bus, and leaves the queue empty (R57). -/
theorem Free.takeSampled {s : State} (h : Free s) (n : Byte) : Working (s.takeSampled n) where
  toFree := Free.effect (s := s.setLock false) { h with } (.takeInterrupt _ n s.ip)
  queue := Nat.zero_le _
  prefetched := Nat.zero_le _

theorem takeSampled_inhibitInt (s : State) (n : Byte) : (s.takeSampled n).inhibitInt = s.inhibitInt := by
  simp [State.takeSampled, State.takeInterrupt]

/-- What is due is taken, and else nothing happens (R287). -/
theorem takeExternal_cases (s : State) : (s.externalDue = false ∧ s.takeExternal = (s, false)) ∨
    ∃ u n, s.takeExternal = (State.takeSampled u n, true) ∧ u.inhibitInt = s.inhibitInt ∧ (Free s → Free u) := by
  unfold State.takeExternal State.externalDue
  split
  · exact .inr ⟨_, _, rfl, rfl, fun h => { h with pins := fun hr => ⟨rfl, (h.pins hr).2⟩ }⟩
  · split
    · exact .inr ⟨_, _, rfl, rfl, fun h => { h with }⟩
    · rename_i hn hi
      exact .inl ⟨by simp_all, rfl⟩

/-- Sampling takes nothing, when nothing is due, or leaves a CPU at work (R287). -/
theorem sample_cases (s : State) (tf0 seq : Bool) : (s.externalDue = false ∧ s.sample tf0 seq = (s, false)) ∨
    ((s.sample tf0 seq).2 = true ∧ (s.sample tf0 seq).1.inhibitInt = s.inhibitInt ∧
      (Free s → Working (s.sample tf0 seq).1)) := by
  unfold State.sample
  rcases takeExternal_cases s with ⟨hdue, h⟩ | ⟨u, n, h, hi, hf⟩
  · rw [h]
    cases tf0 with
    | false => exact .inl ⟨hdue, rfl⟩
    | true => exact .inr ⟨by simp, by simp [takeSampled_inhibitInt], fun hs => by simpa using hs.takeSampled 1⟩
  · rw [h]
    dsimp only
    split
    · exact .inr ⟨rfl, by rw [takeSampled_inhibitInt, takeSampled_inhibitInt, hi],
        fun hs => ((hf hs).takeSampled n).toFree.takeSampled 1⟩
    · exact .inr ⟨rfl, by rw [takeSampled_inhibitInt, hi], fun hs => (hf hs).takeSampled n⟩

/-- A WAIT is read again only if something is then taken, which discards what was read (R292). -/
theorem refetchWait_sample_cases (s : State) (tf0 seq : Bool) :
    s.refetchWait.sample tf0 seq = (s, false) ∨ ((s.refetchWait.sample tf0 seq).2 = true ∧
      (s.refetchWait.sample tf0 seq).1.inhibitInt = s.inhibitInt ∧
      (Free s → Working (s.refetchWait.sample tf0 seq).1)) := by
  obtain ⟨k, d, heard, he⟩ := s.refetchWait_spec
  have hinhibit : s.refetchWait.inhibitInt = s.inhibitInt := he ▸ rfl
  have hdue : s.refetchWait.externalDue = s.externalDue := he ▸ rfl
  have hfree (h : Free s) : Free s.refetchWait := he ▸ { h with }
  rcases sample_cases s.refetchWait tf0 seq with ⟨hn, h⟩ | ⟨ht, hi, hw⟩
  · exact .inl (h.trans (by rw [State.refetchWait_of_not_due (hdue.symm.trans hn)]))
  · exact .inr ⟨ht, hi.trans hinhibit, hw ∘ hfree⟩

/-! ### A master that asks for the bus -/

/-- Another master is to have the bus, or has it (R62), and nothing locks it: whatever waits for the bus may wait. -/
structure Asked (s : State) : Prop where
  canonical : Memory.wf s.mem
  queue : s.queue.length ≤ s.queueSize
  prefetched : s.prefetched ≤ s.queueSize
  granted : s.busReleased ≠ none → s.busReleased = s.busRequest
  lock : s.lock = false
  asked : s.busRequest ≠ none
  beforeFetch : s.beforeFetch ≠ [] → s.queue = [] ∧ s.prefetched = 0
  stillAsk : ∀ m ∈ s.beforeFetch, m ∈ s.busRequests
  running : s.run ≠ .inReset
  pins : PinsOk s

theorem Asked.inv {s : State} (h : Asked s) (hcur : s.cur = .idle) (hi : s.inhibitInt = false) : s.Inv :=
  ⟨h.canonical, hcur, hi, h.queue, h.prefetched, h.granted, fun _ => ⟨h.lock, h.asked⟩,
    fun hb => ⟨(h.beforeFetch hb).1, (h.beforeFetch hb).2, h.lock⟩, h.stillAsk, fun hr => absurd hr h.running, h.pins⟩

theorem Working.asked {s : State} (h : Working s) (hlock : s.lock = false) (hasked : s.busRequest ≠ none) : Asked s where
  canonical := h.canonical
  queue := h.queue
  prefetched := h.prefetched
  granted := fun hb => absurd h.settled.1 hb
  lock := hlock
  asked := hasked
  beforeFetch := fun hb => absurd h.settled.2.2 hb
  stillAsk := by simp only [h.settled.2.2, List.not_mem_nil, false_implies, implies_true]
  running := h.running
  pins := h.pins

/-- A sampling point, reached or put off, leaves the invariant (R279, R287). -/
theorem sampleAfterHold_inv {s : State} (h : Working s) (hi : s.inhibitInt = false) (tf0 seq : Bool) :
    ({ s.sampleAfterHold tf0 seq with cur := .idle } : State).Inv := by
  unfold State.sampleAfterHold
  dsimp only
  split
  next hput =>
    have hasked : s.busRequest ≠ none := by
      simp only [Bool.and_eq_true, Option.isSome_iff_ne_none] at hput
      exact hput.2
    exact Asked.inv { (h.setLock false).asked rfl hasked with } rfl hi
  next =>
    rcases refetchWait_sample_cases s tf0 seq with hs | ⟨-, hs, hw⟩
    · rw [hs]
      exact h.inv_idle hi
    · exact (hw h.toFree).inv_idle (hs.trans hi)

/-! ### Waiting for the bus between two repetitions -/

/-- As `Working`, but that another master may have the bus. -/
structure Awaiting (s : State) : Prop where
  working : Working s.regain
  beforeFetch : s.beforeFetch = []

theorem Working.awaiting {s : State} (h : Working s) : Awaiting s where
  working := { h with settled := ⟨rfl, h.settled.2.1, rfl⟩ }
  beforeFetch := h.settled.2.2

theorem Awaiting.release {s : State} (h : Awaiting s) (m : BusMaster) : Awaiting (s.release m) where
  working := { h.working with settled := ⟨rfl, h.working.settled.2.1, rfl⟩ }
  beforeFetch := h.beforeFetch

theorem Heard.regain {s t : State} (h : Heard s t) : Heard s.regain t.regain :=
  { h with
    released := fun _ => rfl
    beforeFetch := fun _ => rfl
    stillAsk := fun _ _ => .inr nofun }

theorem Awaiting.heard {s t : State} (h : Awaiting s) (hl : Heard s t) : Awaiting t where
  working := h.working.heard hl.regain
  beforeFetch := hl.beforeFetch h.beforeFetch

/-- The wait is over: the bus is with the one that is to have it, which is the CPU or, if the platform never gives it
back, another master. -/
structure Awaited (s : State) : Prop extends Awaiting s where
  holder : s.heldBy = s.busReleased
  inhibitInt : s.inhibitInt = false
  cut : s.cur.cut = false

theorem awaitBus_awaited {s : State} (n : Nat) (h : Awaiting s) (hi : s.inhibitInt = false) (hc : s.cur.cut = false) :
    Awaited (State.awaitBus n s) := by
  have back (s : State) (h : Awaiting s) (hi : s.inhibitInt = false) (hc : s.cur.cut = false) (hn : s.heldBy = none) :
      Awaited s.regain := ⟨h.working.awaiting, heldBy_regain hn, hi, hc⟩
  induction n generalizing s with
  | zero =>
    unfold State.awaitBus
    split
    next hn => exact back s h hi hc hn
    next m hm => exact ⟨h.release m, heldBy_release hm, hi, hc⟩
  | succ n ih =>
    unfold State.awaitBus
    split
    next hn => exact back s h hi hc hn
    next m hm =>
      have hl := Heard.look (s.release m)
      exact ih ((h.release m).heard hl) (hl.inhibitInt.trans hi) (hl.cur ▸ hc)

/-- With the bus the CPU is at work. -/
theorem Awaited.working_of_free {s : State} (h : Awaited s) (hn : s.heldBy = none) : Working s :=
  State.regain_of_none (h.holder.symm.trans hn) h.beforeFetch ▸ h.working

theorem Awaited.asked_of_held {s : State} (h : Awaited s) {m : BusMaster} (hm : s.heldBy = some m) : Asked s := by
  obtain ⟨hlock, -, hasked⟩ := heldBy_eq_some.1 hm
  have hw := h.working
  exact { hw with
    granted := fun _ => by rw [← h.holder, hm, hasked]
    lock := hlock
    asked := by simp [hasked]
    beforeFetch := fun hb => absurd h.beforeFetch hb
    stillAsk := by simp only [h.beforeFetch, List.not_mem_nil, false_implies, implies_true] }

/-! ### What an instruction leaves -/

/-- The CPU at work on an instruction that has not been left. -/
structure Begun (s : State) : Prop extends Working s where
  inhibitInt : s.inhibitInt = false
  cut : s.cur.cut = false

/-- An instruction that has been left before its end: the invariant holds but for the instruction in progress. -/
structure Stopped (s : State) : Prop where
  cut : s.cur.cut = true
  beforeFetch : s.beforeFetch = []
  inv : ({ s with cur := .idle } : State).Inv

/-- The end of an instruction, or the point where it has been left. -/
def Ended (s : State) : Prop := (Working s ∧ s.cur.cut = false) ∨ Stopped s

theorem Begun.ended {s : State} (h : Begun s) : Ended s := .inl ⟨h.toWorking, h.cut⟩

theorem Begun.ended_of_effect {s t : State} (h : Begun s) (he : Effect s t) : Ended t :=
  .inl ⟨h.toWorking.effect he, he.cut.trans h.cut⟩

/-- In reset nothing is in progress, nothing waits, and HLDA and LOCK* are inactive (R315). -/
theorem enterReset_inv {s : State} (hm : Memory.wf s.mem) (hp : PinsOk s) : s.enterReset.Inv := by
  refine inv_of_settled ⟨rfl, rfl, rfl⟩ hm rfl rfl (Nat.zero_le _) (Nat.zero_le _) (fun _ => rfl) fun hr => ?_
  obtain ⟨hnmi, hrq⟩ := hp hr
  exact ⟨by simp [State.enterReset, hnmi], hrq⟩

/-- Between two repetitions the instruction is left, for an interrupt, for RESET or for the bus, or nothing happens. -/
theorem sampleRepetition_cases {s : State} (h : Awaited s) : Begun s.sampleRepetition ∨ Stopped s.sampleRepetition := by
  unfold State.sampleRepetition
  split
  next => exact .inr ⟨rfl, rfl, enterReset_inv h.working.canonical h.working.pins⟩
  next =>
    dsimp only
    cases hb : s.heldBy with
    | some m =>
      simp only [Option.isSome_some, if_true]
      exact .inr ⟨rfl, h.beforeFetch, Asked.inv { h.asked_of_held hb with } rfl h.inhibitInt⟩
    | none =>
      have hw := h.working_of_free hb
      simp only [Option.isSome_none, Bool.false_eq_true, if_false]
      rcases sample_cases { s with ip := s.cur.ipPrefix } s.cur.tf0 false with ⟨-, hs⟩ | ⟨ht, hi, hf⟩
      · rw [hs]
        exact .inl ⟨hw, h.inhibitInt, h.cut⟩
      · rw [if_pos ht]
        have hu := hf { hw with }
        exact .inr ⟨rfl, hu.settled.2.2, Working.inv_idle { hu with } (hi.trans h.inhibitInt)⟩

theorem betweenRepetitions_cases {s : State} (h : Begun s) : Begun s.betweenRepetitions ∨ Stopped s.betweenRepetitions := by
  have hl := Heard.look s
  have hawait := awaitBus_awaited s.look.outside.length (h.toWorking.heard hl).awaiting (hl.inhibitInt.trans h.inhibitInt)
    (hl.cur ▸ h.cut)
  unfold State.betweenRepetitions
  dsimp only
  generalize State.awaitBus s.look.outside.length s.look = t at hawait
  split
  next =>
    have hunlocked : Awaiting (t.setLock false) := ⟨{ hawait.working with }, hawait.beforeFetch⟩
    have hagain := awaitBus_awaited t.outside.length hunlocked hawait.inhibitInt hawait.cut
    rcases sampleRepetition_cases hagain with hu | hu
    · rw [if_neg (by simp [hu.cut])]
      exact .inl { hu with }
    · rw [if_pos hu.cut]
      exact .inr hu
  next => exact sampleRepetition_cases hawait

theorem stringOnce_inhibitInt (s : State) (p : Primitive) : (s.stringOnce p).inhibitInt = s.inhibitInt := by
  cases p <;> simp [State.stringOnce, State.stepSi, State.stepDi, State.flags8, State.flags16]

theorem Begun.repetition {s : State} (h : Begun s) (p : Primitive) : Begun (s.stringOnce p).countDown where
  toWorking := h.toWorking.effect (.repetition s p)
  inhibitInt := (stringOnce_inhibitInt s p).trans h.inhibitInt
  cut := (Effect.repetition s p).cut.trans h.cut

theorem repetitions_ended (p : Primitive) (z : Bool) (n : Nat) {s : State} (h : Begun s) :
    Ended (State.repetitions p z n s) := by
  induction n generalizing s with
  | zero => exact h.ended
  | succ n ih =>
    have once := h.repetition p
    unfold State.repetitions
    dsimp only
    generalize (s.stringOnce p).countDown = t at once
    split
    · exact once.ended
    · split
      · exact once.ended
      · rcases betweenRepetitions_cases once with hu | hu
        · rw [if_neg (by simp [hu.cut])]
          exact ih hu
        · rw [if_pos hu.cut]
          exact .inr hu

theorem repeatString_ended {s : State} (h : Begun s) (p : Primitive) : Ended (s.repeatString p) := by
  unfold State.repeatString
  split
  · exact h.ended_of_effect (.stringOnce s p)
  · exact repetitions_ended p _ _ h

theorem exec_ended {i : Instr} {s t : State} (h : Begun s) (hx : exec i s = .next t) : Ended t := by
  rcases exec_effects i s with he | ⟨p, hp⟩
  · exact h.ended_of_effect (he t hx)
  · obtain rfl : s.repeatString p = t := by simpa only [hp, Host.Outcome.next.injEq] using hx
    exact repeatString_ended h p

/-- A change of registers, prefixes or the lock alone. -/
theorem Begun.of_outer {s t : State} (h : Begun s) (ho : outer t = outer s) (hi : t.inhibitInt = s.inhibitInt) :
    Begun t where
  toWorking := h.toWorking.effect (.of_outer ho)
  inhibitInt := hi.trans h.inhibitInt
  cut := (Effect.of_outer ho).cut.trans h.cut

/-- Behind one of the prefixes the CPU goes on with the instruction it precedes (R87). -/
theorem exec_prefix_begun {i : Instr} {s t : State} (h : Begun s) (hi : isPrefixByte i = true)
    (hx : exec i s = .next t) : Begun t := by
  unfold isPrefixByte at hi
  split at hi
  case h_8 => contradiction
  all_goals
    cases hx
    exact h.of_outer rfl rfl

theorem Begun.advance {s : State} (h : Begun s) (n : Nat) : Begun (s.advance n) := by
  obtain ⟨k, d, heard, he, -, hk⟩ := s.advance_spec n
  rw [he]
  exact { h with
    queue := (List.length_drop.trans_le (Nat.sub_le _ n)).trans h.queue
    prefetched := hk h.prefetched }

theorem runInstr_ended {n : Nat} {s t : State} (h : Begun s) (hx : s.runInstr n = .next t) : Ended t := by
  induction n generalizing s with
  | zero =>
    obtain rfl := by simpa only [State.runInstr, Host.Outcome.next.injEq] using hx
    exact .inr ⟨rfl, h.settled.2.2, h.toWorking.inv_idle h.inhibitInt⟩
  | succ n ih =>
    unfold State.runInstr at hx
    split at hx
    · contradiction
    · split at hx
      next u hu =>
        split at hx
        next hp => exact ih (exec_prefix_begun (h.advance _) hp hu) hx
        next =>
          obtain rfl := by simpa only [Host.Outcome.next.injEq] using hx
          exact exec_ended (h.advance _) hu
      all_goals contradiction

/-! ### The end of an instruction -/

theorem Working.sampleEnd_inv {s : State} (h : Working s) (hi : s.inhibitInt = false) :
    ({ s.sampleEnd with cur := .idle } : State).Inv := by
  unfold State.sampleEnd
  split
  · exact h.inv_idle hi
  · exact sampleAfterHold_inv h hi _ _

theorem hear_inhibitInt (s : State) : s.hear.inhibitInt = s.inhibitInt := by
  rw [State.hear_eq]
  split
  · obtain ⟨q, d, he, -⟩ := keepPrefetched_spec s.look s
    rw [he]
    exact (Heard.look s).inhibitInt
  · exact (Heard.look s).inhibitInt

/-- The queue of an instruction that ends is discarded or holds what was prefetched (R57, R58). -/
def endQueue (t before : State) : State :=
  if t.cur.jumped then { t with queue := [], prefetched := 0 } else t.keepPrefetched before

theorem endQueue_spec (t before : State) : ∃ q k d,
    endQueue t before = { t with queue := q, prefetched := k, drawn := d } ∧
    (t.queue.length ≤ t.queueSize → q.length ≤ t.queueSize) ∧ k ≤ t.prefetched := by
  unfold endQueue
  split
  · exact ⟨[], 0, t.drawn, rfl, fun _ => Nat.zero_le _, Nat.zero_le _⟩
  · obtain ⟨q, d, he, hq⟩ := keepPrefetched_spec t before
    exact ⟨q, t.prefetched, d, he, hq, le_rfl⟩

/-- The end of an instruction in its three ways, its queue and its lock dealt with: it has been left before, it holds
interrupts off, or it is a sampling point (R306). -/
def endPoint (u : State) : State :=
  if u.cur.cut then u else if u.inhibitInt then { u with inhibitInt := false } else u.hear.sampleEnd

theorem finish_eq (t before : State) : t.finish before =
    { endPoint ((endQueue t before).setLock (endQueue t before).lockAfter) with cur := .idle } := rfl

/-- A lock that goes on or ends, and a queue that shrinks or is filled again, are nothing to the invariant where no master
comes before the first fetch. -/
theorem inv_endQueue {s : State} (h : s.Inv) (hfirst : s.beforeFetch = []) {on : Bool} (hon : s.lock = false → on = false)
    {q : List (Option Byte)} {k : Nat} (d : Nat) (trace : List HostCall)
    (hq : s.queue.length ≤ s.queueSize → q.length ≤ s.queueSize) (hk : k ≤ s.prefetched) :
    ({ s with queue := q, prefetched := k, drawn := d, lock := on, trace := trace } : State).Inv := by
  obtain ⟨hmem, hcur, hinhibit, hqueue, hread, hreleased, hunsampled, -, hasking, hreset, hpins⟩ := h
  refine ⟨hmem, hcur, hinhibit, hq hqueue, hk.trans hread, hreleased, ?_, fun hb => absurd hfirst hb, hasking, ?_, hpins⟩
  · intro hw
    obtain ⟨hlock, hasked⟩ := hunsampled hw
    exact ⟨hon hlock, hasked⟩
  · intro hr
    obtain ⟨hbus, hlock, hw, hb⟩ := hreset hr
    exact ⟨hbus, hon hlock, hw, hb⟩

theorem endPoint_inv_of_cut {u : State} (hcut : u.cur.cut = true) (h : ({ u with cur := .idle } : State).Inv) :
    ({ endPoint u with cur := .idle } : State).Inv := by
  rwa [endPoint, if_pos hcut]

theorem Working.endPoint_inv {u : State} (h : Working u) (hcut : u.cur.cut = false) :
    ({ endPoint u with cur := .idle } : State).Inv := by
  rw [endPoint, if_neg (by simp [hcut])]
  split
  next => exact Working.inv_idle (s := { u with inhibitInt := false }) { h with } rfl
  next hi => exact h.hear.sampleEnd_inv ((hear_inhibitInt u).trans (by simpa using hi))

theorem lockAfter_of_unlocked {t : State} (h : t.lock = false) : t.lockAfter = false := by simp [State.lockAfter, h]

theorem finish_inv {t : State} (h : Ended t) (before : State) : (t.finish before).Inv := by
  obtain ⟨q, k, d, he, hq, hk⟩ := endQueue_spec t before
  rw [finish_eq, he]
  rcases h with ⟨hw, hcut⟩ | h
  · have hu : Working ({ t with queue := q, prefetched := k, drawn := d } : State) :=
      { hw with queue := hq hw.queue, prefetched := hk.trans hw.prefetched }
    exact (hu.setLock _).endPoint_inv hcut
  · have hlock := lockAfter_of_unlocked (t := { t with queue := q, prefetched := k, drawn := d })
    exact endPoint_inv_of_cut h.cut (inv_endQueue h.inv h.beforeFetch hlock d _ hq hk)

theorem runStep_inv {s t : State} (h : Working s) (hi : s.inhibitInt = false) (hx : s.runStep = .next t) : t.Inv := by
  have begun : Begun s.begin := ⟨{ h with }, hi, rfl⟩
  unfold State.runStep at hx
  split at hx
  next u hu =>
    obtain rfl := by simpa only [Host.Outcome.next.injEq] using hx
    exact finish_inv (runInstr_ended begun hu) s
  all_goals contradiction

/-! ### The idle states and the hold -/

theorem endWait_inv {s : State} (h : Working s) (hi : s.inhibitInt = false) (next : Word) :
    ({ s.endWait next with cur := .idle } : State).Inv :=
  sampleAfterHold_inv (s := { s.setLock false with run := .running, ip := next }) { h with running := nofun } hi _ _

theorem idleWait_inv {s : State} (h : Working s) (hi : s.inhibitInt = false) (next : Word) : (s.idleWait next).Inv := by
  unfold State.idleWait
  split
  · exact endWait_inv h hi next
  · exact sampleAfterHold_inv h hi _ _

/-- A sampling that was put off, once the bus is back (R279). -/
theorem samplePutOff_inv {s : State} (w : Sampling) (h : Working { s with unsampled := none }) (hcur : s.cur = .idle)
    (hi : s.inhibitInt = false) : (s.samplePutOff w).Inv := by
  unfold State.samplePutOff
  dsimp only
  rcases refetchWait_sample_cases { s with unsampled := none } w.tf0 w.seq with hs | ⟨ht, hs, hw⟩
  · rw [hs]
    have hqueue : (if w.resume = s.ip then s.queue else []).length ≤ s.queue.length := by split <;> simp
    have hread : (if w.resume = s.ip then s.prefetched else 0) ≤ s.prefetched := by split <;> simp
    exact Working.inv { h with queue := hqueue.trans h.queue, prefetched := hread.trans h.prefetched } hcur hi
  · rw [if_pos ht]
    exact (hw h.toFree).inv_idle (hs.trans hi)

/-- With a request for the bus standing, nothing is sampled: it is put off, or nothing is due (R279). -/
theorem sampleAfterHold_asked {s : State} (h : s.busRequest ≠ none) (tf0 seq : Bool) :
    (∃ w, s.sampleAfterHold tf0 seq = { s.setLock false with unsampled := some w }) ∨ s.sampleAfterHold tf0 seq = s := by
  unfold State.sampleAfterHold
  dsimp only
  rcases refetchWait_sample_cases s tf0 seq with hs | ⟨ht, -, -⟩
  · rw [hs]
    exact .inr rfl
  · rw [if_pos (by simp [ht, Option.isSome_iff_ne_none, h])]
    exact .inl ⟨_, rfl⟩

/-- A WAIT that ends while another master has the bus leaves it there (R259). -/
theorem Asked.endWait_inv {s : State} (h : Asked s) (hcur : s.cur = .idle) (hi : s.inhibitInt = false) (next : Word) :
    (s.endWait next).Inv := by
  have ended : Asked { s.setLock false with run := .running, ip := next } := { h with lock := rfl, running := nofun }
  unfold State.endWait
  rcases sampleAfterHold_asked ended.asked s.flags.tF false with ⟨w, hs⟩ | hs
  · rw [hs]
    exact Asked.inv { ended with lock := rfl } hcur hi
  · rw [hs]
    exact ended.inv hcur hi

/-- While another master has the bus, a WAIT may end, but nothing is sampled (R259). -/
theorem idleHeld_inv {s : State} (h : Asked s) (hcur : s.cur = .idle) (hi : s.inhibitInt = false) : s.idleHeld.Inv := by
  unfold State.idleHeld
  split
  · split
    · exact h.endWait_inv hcur hi _
    · exact h.inv hcur hi
  · exact h.inv hcur hi

/-! ### The step -/

/-- What a look at the outside leaves of the invariant. -/
structure Looked (s : State) : Prop where
  canonical : Memory.wf s.mem
  cur : s.cur = .idle
  inhibitInt : s.inhibitInt = false
  queue : s.queue.length ≤ s.queueSize
  prefetched : s.prefetched ≤ s.queueSize
  beforeFetch : s.beforeFetch ≠ [] → s.queue = [] ∧ s.prefetched = 0
  stillAsk : StillAsk s
  pins : PinsOk s

theorem Looked.of_inv {s : State} (h : s.Inv) : Looked s := by
  obtain ⟨hmem, hcur, hinhibit, hqueue, hread, -, -, hfirst, hasking, -, hpins⟩ := h
  refine ⟨hmem, hcur, hinhibit, hqueue, hread, fun hb => ?_, .inr hasking, hpins⟩
  obtain ⟨hq, hk, -⟩ := hfirst hb
  exact ⟨hq, hk⟩

theorem Looked.heard {s t : State} (h : Looked s) (hl : Heard s t) : Looked t where
  canonical := hl.canonical h.canonical
  cur := hl.cur.trans h.cur
  inhibitInt := hl.inhibitInt.trans h.inhibitInt
  queue := by rw [queueSize_congr hl.params, hl.queue]; exact h.queue
  prefetched := by rw [queueSize_congr hl.params, hl.prefetched]; exact h.prefetched
  beforeFetch := by
    rw [hl.queue, hl.prefetched]
    exact fun hb => h.beforeFetch (mt hl.beforeFetch hb)
  stillAsk := hl.stillAsk h.pins h.stillAsk
  pins := hl.pins h.pins

theorem Looked.hear {s : State} (h : Looked s) : Looked s.hear := by
  have hl := Heard.look s
  have looked := h.heard hl
  rw [State.hear_eq]
  split
  next hfirst =>
    obtain ⟨q, d, he, hq⟩ := keepPrefetched_spec s.look s
    rw [he]
    have hnone := hl.beforeFetch (List.isEmpty_iff.1 hfirst)
    exact { looked with queue := hq looked.queue, beforeFetch := fun hb => absurd hnone hb }
  next => exact looked

/-- When RESET is low again the masters that ask come first (R312). -/
theorem Looked.leaveReset_inv {s : State} (h : Looked s) : s.leaveReset.Inv :=
  ⟨h.canonical, rfl, rfl, Nat.zero_le _, Nat.zero_le _, fun hb => absurd rfl hb, fun hw => absurd rfl hw,
    fun _ => ⟨rfl, rfl, rfl⟩, fun _ hm => hm, nofun, h.pins⟩

/-- The bus is given to the master that is to have it (R62). -/
theorem Looked.release_asked {s : State} (h : Looked s) {m : BusMaster} (hm : s.heldBy = some m)
    (hr : s.run ≠ .inReset) : Asked (s.release m) := by
  obtain ⟨hlock, hreset, hasked⟩ := heldBy_eq_some.1 hm
  have hstill : ∀ k ∈ s.beforeFetch, k ∈ s.busRequests := by
    refine h.stillAsk.resolve_left fun hseen => ?_
    simp [State.resetAsked, hseen] at hreset
  exact { h with
    granted := fun _ => (busRequest_release hasked).symm
    lock := hlock
    asked := by simp [busRequest_release hasked]
    stillAsk := hstill
    running := hr }

/-- Without a request for the bus the CPU is at work, but for a sampling that was put off. -/
theorem Looked.regain_working {s : State} (h : Looked s) (hr : s.run ≠ .inReset) :
    Working { s.regain with unsampled := none } :=
  { h with settled := ⟨rfl, rfl, rfl⟩, running := hr }

/-- The step after the look, in its ways: reset, the hold, a sampling that was put off, and the run states. -/
theorem cycle_inv {s t : State} (h : Looked s.hear) (hx : s.cycle = .next t) : t.Inv := by
  unfold State.cycle at hx
  generalize s.hear = s at h hx
  dsimp only at hx
  split at hx
  · obtain rfl := by simpa only [Host.Outcome.next.injEq] using hx
    exact enterReset_inv h.canonical h.pins
  · split at hx
    · obtain rfl := by simpa only [Host.Outcome.next.injEq] using hx
      exact h.leaveReset_inv
    next hr =>
      split at hx
      next m hm =>
        obtain rfl := by simpa only [Host.Outcome.next.injEq] using hx
        exact idleHeld_inv (h.release_asked hm hr) h.cur h.inhibitInt
      next =>
        have hw := h.regain_working hr
        split at hx
        next w _ =>
          obtain rfl := by simpa only [Host.Outcome.next.injEq] using hx
          exact samplePutOff_inv w hw h.cur h.inhibitInt
        next hu =>
          have hwork : Working s.regain := { hw with settled := ⟨rfl, hu, rfl⟩ }
          split at hx
          · obtain rfl := by simpa only [Host.Outcome.next.injEq] using hx
            exact sampleAfterHold_inv hwork h.inhibitInt _ _
          · obtain rfl := by simpa only [Host.Outcome.next.injEq] using hx
            exact idleWait_inv hwork h.inhibitInt _
          · exact runStep_inv hwork h.inhibitInt hx
          · exact runStep_inv hwork h.inhibitInt hx

/-- Settles O55: a look keeps what the branches of the step rest on, and each of them gives the invariant back. -/
theorem invariantKeptByEveryStep : Obligations.InvariantKeptByEveryStep :=
  fun _ _ h hx => cycle_inv (Looked.of_inv h).hear hx

end Sys2Proof.Proofs
end

section
/-! PROOFS. What uses the stack (spec/20_memory.md R52, R53): PUSH and PUSHF, CALL and RET; obligations O21, O37 and
O38. -/
namespace Sys2Proof.Proofs
open Sys2Proof Sys2Proof.Machine

/-! ### Words pushed -/

/-- Only SP, memory and the host's trace matter to what has been pushed. -/
theorem pushed_congr {s t u : State} {words : List Word} (h : State.pushed s t words) (hsp : u.sp = t.sp)
    (hmem : u.mem = t.mem) (htrace : u.trace = t.trace) : State.pushed s u words := by
  obtain ⟨h1, h2, h3⟩ := h
  have hread (base off : Word) : u.read16 base off = t.read16 base off := by
    simp only [State.read16, State.read8, hmem]
  exact ⟨hsp.trans h1, fun n v hn hl => (hread _ _).trans (h2 n v hn hl),
    State.memKept_congr h3 rfl rfl rfl hmem htrace⟩

theorem pushed_push16 (s : State) (v : Word) : State.pushed s (s.push16 v) [v] := by
  obtain ⟨hsp, hread, -, -, -, hmem, -⟩ := s.push16_spec v
  refine ⟨hsp, fun n w hn => ?_, State.memKept_mono hmem fun a ha => ⟨0, Nat.one_pos, ha⟩⟩
  obtain ⟨rfl, rfl⟩ : n = 0 ∧ v = w := by simpa [List.getElem?_singleton] using hn
  exact hread

/-- The second word goes below the first, which stays (R52). -/
theorem pushed_push16_push16 (s : State) (v w : Word) : State.pushed s ((s.push16 v).push16 w) [v, w] := by
  obtain ⟨-, hread, -, -, -, hmem, -⟩ := s.push16_spec v
  obtain ⟨-, hread', -, -, -, hmem', -⟩ := (s.push16 v).push16_spec w
  have hsp : s.sp - 2 - 2 = s.sp - 4 := by bv_omega
  simp only [State.push16_sp, State.push16_ss, hsp] at hread' hmem'
  have habove : ((s.push16 v).push16 w).read16 s.ss (s.sp - 2) = (s.push16 v).read16 s.ss (s.sp - 2) := by
    have h := (s.push16 v).read16_push16_above w 2 (by decide) (by decide) (by decide)
    simpa only [State.push16_sp, State.push16_ss, BitVec.sub_add_cancel] using h
  refine ⟨hsp, fun n x hn => ?_, State.memKept_trans (State.memKept_mono hmem fun a ha => ⟨0, Nat.two_pos, ha⟩)
    (State.memKept_mono hmem' fun a ha => ⟨1, Nat.one_lt_two, ha⟩) rfl⟩
  match n with
  | 0 =>
    obtain rfl : v = x := by simpa using hn
    exact fun hl => habove.trans (hread hl)
  | 1 =>
    obtain rfl : w = x := by simpa using hn
    exact hread'
  | n + 2 => simp at hn

/-! ### PUSH -/

/-- What `push16` leaves, in the terms of the statements. -/
theorem push16_leaves (s : State) (v : Word) : State.pushed s (s.push16 v) [v] ∧ State.regsKept s (s.push16 v) [.sp] ∧
    State.segsKept s (s.push16 v) [] ∧ (s.push16 v).flags = s.flags ∧ State.othersKept s (s.push16 v) ∧
    State.goesOn s (s.push16 v) := by
  obtain ⟨-, -, hflags, hregs, hsegs, -, hothers, hgoes⟩ := s.push16_spec v
  exact ⟨pushed_push16 s v, hregs, hsegs, hflags, hothers, hgoes⟩

/-- With no other master on the bus an r/m operand is pushed as it is read, SP as it is lowered (R117, D9). -/
theorem pushOperand_eq {s : State} (h : s.undisturbed) (e : Ev) :
    s.pushOperand e = s.push16 (if e = .reg .sp then s.sp - 2 else s.readEv e) := by
  cases e with
  | reg r => simp only [State.pushOperand, State.pushReg, State.readEv, Ev.reg.injEq]
  | mem m => simp only [State.pushOperand, State.busGap_of_undisturbed h, State.readEv, reduceCtorEq, if_false]

/-- Settles O21: every form of PUSH is one `push16`. -/
theorem pushStoresTheSource : Obligations.PushStoresTheSource := by
  intro s e r hs
  have push {i : Instr} {v : Word} (hx : exec i s = .next (s.push16 v)) :
      ∃ t, exec i s = .next t ∧ State.pushed s t [v] ∧ State.regsKept s t [.sp] ∧ State.segsKept s t [] ∧
        t.flags = s.flags ∧ State.othersKept s t ∧ State.goesOn s t := ⟨_, hx, push16_leaves s v⟩
  refine ⟨?push, ?pushf⟩
  case push =>
    simp only [List.forall_mem_cons]
    exact ⟨push rfl, push (congrArg Host.Outcome.next (pushOperand_eq hs e)), push rfl, push rfl, push rfl, push rfl,
      List.forall_mem_nil _⟩
  case pushf =>
    obtain ⟨hpushed, hrest⟩ := push16_leaves s s.flags.toWord
    exact ⟨_, _, rfl, hpushed, toWord_isFlagsImage s.flags, hrest⟩

/-! ### CALL -/

/-- `t` is `s` after a call: the words pushed, control transferred to `base:off`, nothing else changed. -/
def Called (s t : State) (words : List Word) (base off : Word) : Prop :=
  State.pushed s t words ∧ t.cs = base ∧ t.ip = off ∧ State.transfers s t ∧ t.flags = s.flags ∧
    State.regsKept s t [.sp] ∧ State.segsKept s t [.cs] ∧ State.othersKept s t

theorem called_near (s : State) (off : Word) : Called s ((s.push16 s.ip).jumpNear off) [s.ip] s.cs off := by
  refine ⟨pushed_congr (pushed_push16 s s.ip) rfl rfl rfl, rfl, rfl, ⟨rfl, rfl, rfl⟩, rfl, fun r hr => ?_, fun r _ => ?_,
    ⟨⟨rfl, rfl, rfl, rfl, rfl, rfl, rfl, rfl, rfl, rfl⟩, rfl, rfl, rfl⟩⟩
  · cases r with
    | sp => exact absurd (List.mem_singleton.2 rfl) hr
    | _ => rfl
  · cases r <;> rfl

theorem called_far {s : State} (h : s.undisturbed) (base off : Word) :
    Called s (s.callFarTo base off) [s.cs, s.ip] base off := by
  have hgap : (s.push16 s.cs).busGap = s.push16 s.cs :=
    State.busGap_of_undisturbed (State.undisturbed_of_eq h rfl rfl)
  rw [State.callFarTo, hgap]
  refine ⟨pushed_congr (pushed_push16_push16 s s.cs s.ip) rfl rfl rfl, rfl, rfl, ⟨rfl, rfl, rfl⟩, rfl, fun r hr => ?_,
    fun r hr => ?_, ⟨⟨rfl, rfl, rfl, rfl, rfl, rfl, rfl, rfl, rfl, rfl⟩, rfl, rfl, rfl⟩⟩
  · cases r with
    | sp => exact absurd (List.mem_singleton.2 rfl) hr
    | _ => rfl
  · cases r with
    | cs => exact absurd (List.mem_singleton.2 rfl) hr
    | _ => rfl

theorem ofNat_toNat_add (v w : Word) : BitVec.ofNat 16 (v.toNat + w.toNat) = v + w := by
  rw [BitVec.ofNat_add, BitVec.ofNat_toNat, BitVec.ofNat_toNat, BitVec.setWidth_eq, BitVec.setWidth_eq]

/-- Settles O37: the two intrasegment calls push IP, the two intersegment calls CS and IP. -/
theorem callsSaveTheReturn : Obligations.CallsSaveTheReturn := by
  intro s w v e m hs
  have hgap : s.busGap = s := State.busGap_of_undisturbed hs
  simp only [List.forall_mem_cons]
  refine ⟨?near, ?nearIndirect, ?far, ?farIndirect, List.forall_mem_nil _⟩
  case near => exact ⟨_, rfl, ofNat_toNat_add s.ip w ▸ called_near s _⟩
  case nearIndirect =>
    refine ⟨(s.push16 s.ip).jumpNear (s.readEv e), ?_, called_near s _⟩
    exact congrArg (fun u : State => Host.Outcome.next ((u.push16 s.ip).jumpNear (s.readEv e)))
      (State.gapEv_of_undisturbed hs e)
  case far => exact ⟨_, rfl, called_far hs v w⟩
  case farIndirect =>
    refine ⟨s.callFarTo (s.pointerBase m) (s.pointerOff m), ?_, called_far hs _ _⟩
    change execCallMem32 m s = _
    rw [execCallMem32, hgap, hgap]

/-! ### RET -/

/-- `t` is `s` after a return that leaves SP at `sp`: control transferred to `base` and the offset on top of the stack,
nothing else changed. -/
def Returned (s t : State) (base sp : Word) : Prop :=
  t.ip = s.read16 s.ss s.sp ∧ t.cs = base ∧ t.sp = sp ∧ State.transfers s t ∧ t.flags = s.flags ∧ t.mem = s.mem ∧
    State.regsKept s t [.sp] ∧ State.segsKept s t [.cs] ∧ State.restKept s t

theorem returned_jumpFar (s : State) (base sp : Word) :
    Returned s (({ s with sp := sp } : State).jumpFar base s.top16) base sp := by
  refine ⟨rfl, rfl, rfl, ⟨rfl, rfl, rfl⟩, rfl, rfl, fun r hr => ?_, fun r hr => ?_,
    ⟨⟨⟨rfl, rfl, rfl, rfl, rfl, rfl, rfl, rfl, rfl, rfl⟩, rfl, rfl, rfl⟩, rfl⟩⟩
  · cases r with
    | sp => exact absurd (List.mem_singleton.2 rfl) hr
    | _ => rfl
  · cases r with
    | cs => exact absurd (List.mem_singleton.2 rfl) hr
    | _ => rfl

/-- An intrasegment return stays in its segment (R210, R211). -/
theorem returned_near (s : State) (sp : Word) :
    Returned s (({ s with sp := sp } : State).jumpNear s.top16) s.cs sp := returned_jumpFar s s.cs sp

theorem returned_far {s : State} (h : s.undisturbed) (n : Word) :
    Returned s (s.returnFar n) (s.read16 s.ss (s.sp + 2)) (s.sp + (4 + n)) := by
  have hgap : s.drop16.busGap = s.drop16 := State.busGap_of_undisturbed (State.undisturbed_of_eq h rfl rfl)
  have hsp : s.sp + 2 + 2 + n = s.sp + (4 + n) := by bv_omega
  rw [State.returnFar, hgap]
  exact hsp ▸ returned_jumpFar s _ (s.sp + 2 + 2 + n)

/-- Settles O38: each return pops its target, and leaves SP above what it has popped and the pop-value. -/
theorem returnsPopTheTarget : Obligations.ReturnsPopTheTarget := by
  intro s n hs
  simp only [List.forall_mem_cons]
  refine ⟨?ret, ?retPop, ?retf, ?retfPop, List.forall_mem_nil _⟩
  case ret => exact ⟨_, rfl, returned_near s _⟩
  case retPop => exact ⟨_, rfl, BitVec.add_assoc s.sp 2 n ▸ returned_near s _⟩
  case retf => exact ⟨_, rfl, returned_far hs 0⟩
  case retfPop => exact ⟨_, rfl, returned_far hs n⟩

end Sys2Proof.Proofs
end

section
/-! PROOFS. The reading of instruction bytes (spec/20_memory.md R54, R57; spec/70_reset_and_hazards.md R322, R333): what
a prefetch makes the host hear, and a WAIT that is read again (spec/60_exceptions.md R292). -/
namespace Sys2Proof.Proofs
open Sys2Proof Sys2Proof.Machine

/-! ### The cycles of a prefetch -/

/-- A fetch as the host may hear it: a word only at an even address of an 8086 (R54, R333). -/
def isFetch (p : Params) (c : HostCall) : Prop :=
  (∃ a, c = .fetch8 a) ∨ ∃ a, c = .fetch16 a ∧ p.variant = .i8086 ∧ a % 2 = 0

/-- The devices among the `n` bytes from distance `i` of `base:off` on, in ascending order. -/
def devicesFrom (p : Params) (base off : Word) (i n : Nat) : List Nat :=
  ((List.range' i n).map fun d => phys base (off + BitVec.ofNat 16 d)).filter fun a => p.kindAt a == .device

theorem devicesFrom_zero (p : Params) (base off : Word) (i : Nat) : devicesFrom p base off i 0 = [] := rfl

theorem devicesFrom_succ (p : Params) (base off : Word) (i n : Nat) : devicesFrom p base off i (n + 1) =
    (if p.kindAt (phys base (off + BitVec.ofNat 16 i)) = .device then [phys base (off + BitVec.ofNat 16 i)] else []) ++
      devicesFrom p base off (i + 1) n := by
  simp only [devicesFrom, List.range'_succ, List.map_cons, List.filter_cons, beq_iff_eq]
  split <;> rfl

theorem flatMap_fetchHeard (p : Params) (a : Nat) :
    (p.fetchHeard a).flatMap HostCall.fetchedFrom = if p.kindAt a = .device then [a] else [] := by
  unfold Params.fetchHeard
  split <;> rfl

theorem isFetch_of_mem_fetchHeard {p : Params} {a : Nat} {c : HostCall} (h : c ∈ p.fetchHeard a) : isFetch p c := by
  unfold Params.fetchHeard at h
  split at h
  · exact .inl ⟨a, List.mem_singleton.1 h⟩
  · contradiction

theorem add_ofNat_succ (off : Word) (i : Nat) : off + BitVec.ofNat 16 i + 1 = off + BitVec.ofNat 16 (i + 1) := by
  rw [BitVec.ofNat_add, BitVec.add_assoc]
  rfl

theorem add_ofNat_two (off : Word) (i : Nat) : off + BitVec.ofNat 16 i + 2 = off + BitVec.ofNat 16 (i + 2) := by
  rw [BitVec.ofNat_add, BitVec.add_assoc]
  rfl

/-- The cycles of a prefetch read the bytes that are devices, each once and in ascending order (R54, R57). -/
theorem flatMap_fetchCycles (p : Params) (base off : Word) (i n : Nat) :
    (p.fetchCycles base (off + BitVec.ofNat 16 i) n).flatMap HostCall.fetchedFrom = devicesFrom p base off i n := by
  induction n using Nat.twoStepInduction generalizing i with
  | zero => rfl
  | one =>
    rw [devicesFrom_succ, devicesFrom_zero, List.append_nil]
    exact flatMap_fetchHeard p _
  | more n two one =>
    rw [Params.fetchCycles, devicesFrom_succ]
    split
    next hwide =>
      have hnext := phys_succ hwide
      rw [devicesFrom_succ, add_ofNat_two, List.flatMap_append, two, ← add_ofNat_succ, ← List.append_assoc]
      congr 1
      split
      next hboth =>
        rw [if_pos hboth.1, if_pos hboth.2, hnext]
        rfl
      next => rw [List.flatMap_append, flatMap_fetchHeard, flatMap_fetchHeard]
    next => rw [List.flatMap_append, flatMap_fetchHeard, add_ofNat_succ, one]

theorem isFetch_of_mem_fetchCycles {p : Params} {base off : Word} {n : Nat} {c : HostCall}
    (h : c ∈ p.fetchCycles base off n) : isFetch p c := by
  induction n using Nat.twoStepInduction generalizing off with
  | zero => simp [Params.fetchCycles] at h
  | one => exact isFetch_of_mem_fetchHeard h
  | more n two one =>
    rw [Params.fetchCycles] at h
    split at h
    next hwide =>
      rcases List.mem_append.1 h with h | h
      · split at h
        · obtain ⟨h86, heven⟩ := (wideCycle_iff p _).1 hwide
          exact .inr ⟨_, List.mem_singleton.1 h, h86, heven⟩
        · exact (List.mem_append.1 h).elim isFetch_of_mem_fetchHeard isFetch_of_mem_fetchHeard
      · exact two h
    next => exact (List.mem_append.1 h).elim isFetch_of_mem_fetchHeard one

/-! ### A prefetch -/

theorem deviceAhead_iff (s : State) (n : Nat) : s.deviceAhead n = true ↔
    ∃ d < n + s.queueSize, s.params.kindAt (phys s.cs (s.ip + BitVec.ofNat 16 d)) = .device := by
  simp [State.deviceAhead]

/-- Where nothing within reach is a device, nothing is heard. -/
theorem devicesFrom_of_not_deviceAhead {s : State} {n : Nat} (h : ¬s.deviceAhead n = true) :
    devicesFrom s.params s.cs s.ip s.prefetched (n - s.prefetched) = [] := by
  rw [deviceAhead_iff] at h
  simp only [devicesFrom, List.filter_eq_nil_iff, List.forall_mem_map, List.mem_range'_1, beq_iff_eq]
  exact fun d hd hdevice => h ⟨d, by omega, hdevice⟩

/-- A prefetch reads as many bytes as the statements allow, and is heard as they say (R54, R57, R322, R333). -/
theorem fetched_prefetch {s : State} (h : s.prefetched ≤ s.queueSize) (n : Nat) : State.fetched s (s.prefetch n) n := by
  obtain ⟨hn, hread⟩ := s.readTo_spec n
  unfold State.prefetch
  split
  next hahead =>
    have hk : n + (s.readTo n - n) = s.readTo n := by omega
    refine ⟨s.readTo n - n, _, by have := hread h; omega, rfl, fun _ => hk.symm, ?_, fun c hc => ?_⟩
    · rw [List.reverse_reverse, hk]
      exact flatMap_fetchCycles s.params s.cs s.ip s.prefetched _
    · exact isFetch_of_mem_fetchCycles (List.mem_reverse.1 hc)
  next hahead =>
    refine ⟨0, [], Nat.zero_le _, rfl, fun hd => absurd ((deviceAhead_iff s n).2 hd) hahead, ?_, by simp⟩
    exact (devicesFrom_of_not_deviceAhead hahead).symm

/-! ### A WAIT that is read again -/

/-- The CPU just before an interrupt is served: if it waits, it has read the WAIT again (R292). -/
def refetch (s : State) : State :=
  match s.run with
  | .waiting next => { s with prefetched := 0 }.prefetch (next - s.ip).toNat
  | _ => s

theorem refetch_of_waiting {s : State} {next : Word} (h : s.run = .waiting next) :
    refetch s = { s with prefetched := 0 }.prefetch (next - s.ip).toNat := by
  simp only [refetch, h]

theorem refetch_of_not_waiting {s : State} (h : ∀ next, s.run ≠ .waiting next) : refetch s = s := by
  unfold refetch
  split
  next next hr => exact absurd hr (h next)
  next => rfl

theorem refetched_refetch (s : State) : State.refetched s (refetch s) := by
  unfold State.refetched
  split
  next next hr =>
    rw [refetch_of_waiting hr]
    exact fetched_prefetch (s := { s with prefetched := 0 }) (Nat.zero_le _) _
  next hr => exact refetch_of_not_waiting hr

/-- What is left alone when a WAIT is read again. -/
theorem refetch_spec (s : State) : ∃ k d heard,
    refetch s = { s with prefetched := k, drawn := d, trace := heard ++ s.trace } := by
  unfold refetch
  split
  · obtain ⟨k, d, heard, h, -⟩ := State.prefetch_spec { s with prefetched := 0 } _
    exact ⟨k, d, heard, h⟩
  · exact ⟨s.prefetched, s.drawn, [], rfl⟩

theorem refetchWait_of_due {s : State} (h : s.externalDue = true) : s.refetchWait = refetch s := by
  cases hr : s.run with
  | waiting next => rw [State.refetchWait_of_waiting hr h, refetch_of_waiting hr]
  | running | halted | inReset =>
    have hnot : ∀ next, s.run ≠ .waiting next := by simp [hr]
    rw [State.refetchWait_of_not_waiting hnot, refetch_of_not_waiting hnot]

end Sys2Proof.Proofs
end

section
/-! PROOFS. Bus requests (spec/20_memory.md R62; spec/60_exceptions.md R279, R281, R292): a request is served first, the
bus comes back, and what was put off is sampled then; obligation O50. -/
namespace Sys2Proof.Proofs
open Sys2Proof Sys2Proof.Machine

/-! ### The step by who has the bus -/

/-- What the CPU does once the bus is its own: a sampling that was put off, else by the run state (R306). -/
def withBus (s : State) : Outcome :=
  match s.unsampled with
  | some w => .next (s.samplePutOff w)
  | none =>
    match s.run with
    | .halted => .next s.idleHalt
    | .waiting next => .next (s.idleWait next)
    | .running | .inReset => s.runStep

/-- A step in which RESET takes no part, after the look that gives `t`. -/
structure Hears (s t : State) : Prop where
  hear : s.hear = t
  resetAsked : t.resetAsked = false
  run : t.run ≠ .inReset

theorem Hears.step_held {s t : State} (h : Hears s t) {m : BusMaster} (hm : t.heldBy = some m) :
    step s = .next (t.release m).idleHeld := by
  simp only [step, State.cycle, h.hear, h.resetAsked, h.run, hm, Bool.false_eq_true, if_false]

theorem Hears.step_free {s t : State} (h : Hears s t) (hn : t.heldBy = none) : step s = withBus t.regain := by
  simp only [step, State.cycle, h.hear, h.resetAsked, h.run, hn, Bool.false_eq_true, if_false]
  rfl

theorem Hears.of_quiet {s : State} (hq : s.quiet) (hreset : s.resetAsked = false) (hrun : s.run ≠ .inReset) :
    Hears s s := ⟨State.hear_of_quiet hq, hreset, hrun⟩

/-- The state that hears the one entry of events: the platform has nothing more to do after it. -/
def heardLast (s : State) (es : List PinEvent) : State := es.foldl State.pinEvent { s with outside := [] }

/-- One entry of events that leaves memory alone leaves the queue alone, too (R58). -/
theorem hear_of_one_entry {s : State} {es : List PinEvent} (ho : s.outside = [es])
    (hmasters : (heardLast s es).masters = []) (hmem : (heardLast s es).mem = s.mem) : s.hear = heardLast s es := by
  have hnext : s.nextEvents = heardLast s es := by
    unfold State.nextEvents
    rw [ho]
    rfl
  have hlook : s.look = heardLast s es := by
    rw [State.look, hnext, State.busGap_of_undisturbed (.inr hmasters)]
  rw [State.hear_eq, hlook, State.keepPrefetched, if_pos hmem.symm, ite_self]

/-! ### A request that is served -/

theorem heldBy_of_unlocked {s : State} (hlock : s.lock = false) (hreset : s.resetAsked = false) :
    s.heldBy = s.busRequest := by
  simp [State.heldBy, hlock, hreset]

theorem withBus_of_unsampled {s : State} {w : Sampling} (h : s.unsampled = some w) :
    withBus s = .next (s.samplePutOff w) := by
  simp only [withBus, h]

/-- Something is sampled if a trap or an external request is due (R287). -/
theorem sample_snd (s : State) (tf0 : Bool) : (s.sample tf0 false).2 = (tf0 || s.externalDue) := by
  unfold State.sample State.takeExternal State.externalDue
  cases tf0 <;> cases s.nmiPending <;> cases s.pins.intrLine && s.flags.iF <;> rfl

/-- With a request for the bus standing, what is due is put off (R279). -/
theorem sampleAfterHold_of_asked {s : State} (hrun : s.run = .running) (hlock : s.lock = false)
    (hasked : s.busRequest ≠ none) (tf0 : Bool) : s.sampleAfterHold tf0 false =
      if tf0 || s.externalDue then
        { s with unsampled := some { tf0 := tf0, seq := false, resume := s.ip, relock := false } }
      else s := by
  have hnot : ∀ next, s.run ≠ .waiting next := by simp [hrun]
  unfold State.sampleAfterHold
  dsimp only
  rw [State.refetchWait_of_not_waiting hnot, State.setLock_of_eq hlock, sample_snd, hlock,
    Option.isSome_iff_ne_none.2 hasked, Bool.and_true]
  rcases sample_cases s tf0 false with ⟨-, h⟩ | ⟨h, -, -⟩
  · rw [h]
  · rw [sample_snd] at h
    rw [if_pos h, if_pos h]

/-- TEST* is low for a WAIT that waits while another master has the bus: it ends, and what is due is put off (R259,
R279). -/
theorem endWait_of_asked {s : State} (hlock : s.lock = false) (hasked : s.busRequest ≠ none) (next : Word) :
    s.endWait next =
      if s.flags.tF || s.externalDue then
        { s with
          run := .running
          ip := next
          unsampled := some { tf0 := s.flags.tF, seq := false, resume := next, relock := false } }
      else { s with run := .running, ip := next } := by
  rw [State.endWait, State.setLock_of_eq hlock]
  exact sampleAfterHold_of_asked (s := { s with run := .running, ip := next }) rfl hlock hasked s.flags.tF

theorem externalDue_eq_false {s : State} (hn : s.nmiPending = false)
    (hi : s.pins.intrLine = false ∨ s.flags.iF = false) : s.externalDue = false := by
  rcases hi with hi | hi <;> simp [State.externalDue, hn, hi]

/-- RQ*/GT0* comes first when nobody has the bus (R62). -/
theorem busRequest_of_rq0 {s : State} (hmode : s.params.busMode = .maximum) (h0 : s.pins.rq0 = true)
    (hnew : s.busReleased = none) : s.busRequest = some (.line .gt0) := by
  simp [busRequest_of_maximum hmode, h0, hnew]

theorem busRequest_of_no_rq {s : State} (hmode : s.params.busMode = .maximum) (h0 : s.pins.rq0 = false)
    (h1 : s.pins.rq1 = false) : s.busRequest = none := by
  simp [busRequest_of_maximum hmode, h0, h1]

/-- The request to serve, by the pins (R3, R62), and what the host sees when it is served. -/
theorem busRequest_of_pins {s : State} {m : BusMaster} {call : HostCall}
    (h : (s.params.busMode = .minimum ∧ s.pins.hold = true ∧ m = .hold ∧ call = .hlda true) ∨
      (s.params.busMode = .maximum ∧ s.pins.rq0 = true ∧ (s.pins.rq1 = false ∨ s.busReleased ≠ some (.line .gt1)) ∧
        m = .line .gt0 ∧ call = .grant .gt0) ∨
      (s.params.busMode = .maximum ∧ s.pins.rq1 = true ∧ (s.pins.rq0 = false ∨ s.busReleased = some (.line .gt1)) ∧
        m = .line .gt1 ∧ call = .grant .gt1)) : s.busRequest = some m ∧ m.grantCall = call := by
  rcases h with ⟨hmode, hhold, rfl, rfl⟩ | ⟨hmode, h0, h1, rfl, rfl⟩ | ⟨hmode, h1, h0, rfl, rfl⟩
  · exact ⟨by simp [busRequest_of_minimum hmode, hhold], rfl⟩
  · refine ⟨?_, rfl⟩
    rcases h1 with h1 | h1 <;> simp [busRequest_of_maximum hmode, h0, h1]
  · refine ⟨?_, rfl⟩
    rcases h0 with h0 | h0 <;> simp [busRequest_of_maximum hmode, h0, h1]

/-- While another master has the bus no bus cycle happens: what a step hears and who has the bus then stay (R62). -/
theorem idleHeld_released {s : State} (hasked : s.busRequest ≠ none) (hlock : s.lock = false) :
    s.idleHeld.busReleased = s.busReleased ∧ s.idleHeld.trace = s.trace := by
  unfold State.idleHeld
  split
  · split
    · rw [endWait_of_asked hlock hasked]
      split <;> exact ⟨rfl, rfl⟩
    · exact ⟨rfl, rfl⟩
  · exact ⟨rfl, rfl⟩

/-- The first clause of O50: the bus goes to the master that asks, and of the CPU only a WAIT goes on. -/
theorem step_of_request {s b : State} {m : BusMaster} (hq : s.quiet) (hreset : s.resetAsked = false)
    (hrun : s.run ≠ .inReset) (hlock : s.lock = false) (hm : s.busRequest = some m) (hb : s.release m = b) :
    step s = .next b.idleHeld ∧ b.busRequest ≠ none :=
  ⟨hb ▸ (Hears.of_quiet hq hreset hrun).step_held ((heldBy_of_unlocked hlock hreset).trans hm),
    by simp [← hb, busRequest_release hm]⟩

/-! ### A master that gives the bus back and asks again -/

/-- The bus goes to the master that asks when the events have been heard, and the host hears no more than that. -/
theorem Hears.step_grants {s t : State} (h : Hears s t) (hlock : t.lock = false) {m : BusMaster}
    (hm : t.busRequest = some m) (hnew : t.busReleased = none) :
    ∃ u, step s = .next u ∧ u.busReleased = some m ∧ u.trace = m.grantCall :: t.trace := by
  have hasked : (t.release m).busRequest ≠ none := by simp [busRequest_release hm]
  obtain ⟨hreleased, htrace⟩ := idleHeld_released (s := t.release m) hasked hlock
  refine ⟨_, h.step_held ((heldBy_of_unlocked hlock h.resetAsked).trans hm), hreleased, htrace.trans ?_⟩
  simp [State.release, hnew]

/-- A fall and a rise of HOLD within one entry: HLDA falls and rises again (R62; log 32). -/
theorem step_of_hold_again {s : State} (hmasters : s.masters = []) (hreset : s.resetAsked = false)
    (hrun : s.run ≠ .inReset) (hlock : s.lock = false) (hmode : s.params.busMode = .minimum)
    (hreleased : s.busReleased = some .hold) (ho : s.outside = [[.hold false, .hold true]]) :
    ∃ t, step s = .next t ∧ t.busReleased = some .hold ∧ t.trace = .hlda true :: .hlda false :: s.trace := by
  have hears : Hears s (heardLast s [.hold false, .hold true]) := ⟨hear_of_one_entry ho hmasters rfl, hreset, hrun⟩
  have hnew : (heardLast s [.hold false, .hold true]).busReleased = none := if_pos hreleased
  have htrace : (heardLast s [.hold false, .hold true]).trace = .hlda false :: s.trace := by
    simp [heardLast, State.pinEvent, State.holdLevel, State.giveBack, hreleased]
  have hasked : (heardLast s [.hold false, .hold true]).busRequest = some .hold := busRequest_of_minimum hmode
  exact htrace ▸ hears.step_grants hlock hasked hnew

/-- A release and a new request of RQ*/GT1* within one entry: RQ*/GT0*, which asks, now comes before it (R62; log 32). -/
theorem step_of_rq1_again {s : State} (hmasters : s.masters = []) (hreset : s.resetAsked = false)
    (hrun : s.run ≠ .inReset) (hlock : s.lock = false) (hmode : s.params.busMode = .maximum)
    (hreleased : s.busReleased = some (.line .gt1)) (h0 : s.pins.rq0 = true)
    (ho : s.outside = [[.rq .gt1 false, .rq .gt1 true]]) :
    ∃ t, step s = .next t ∧ t.busReleased = some (.line .gt0) ∧ t.trace = .grant .gt0 :: s.trace := by
  have hears : Hears s (heardLast s [.rq .gt1 false, .rq .gt1 true]) :=
    ⟨hear_of_one_entry ho hmasters rfl, hreset, hrun⟩
  have hnew : (heardLast s [.rq .gt1 false, .rq .gt1 true]).busReleased = none := if_pos hreleased
  have htrace : (heardLast s [.rq .gt1 false, .rq .gt1 true]).trace = s.trace := by
    simp [heardLast, State.pinEvent, State.rqPulse, State.giveBack]
  have hasked : (heardLast s [.rq .gt1 false, .rq .gt1 true]).busRequest = some (.line .gt0) :=
    busRequest_of_rq0 hmode h0 hnew
  exact htrace ▸ hears.step_grants hlock hasked hnew

/-! ### The bus comes back -/

/-- What a step finds when the bus is back, in the terms of the state `b` it goes on from. -/
structure ComesBack (s b : State) : Prop where
  step_eq : step s = withBus b
  step_back : step b = withBus b
  same : b = { s with
    busReleased := none, beforeFetch := [], outside := b.outside, pins := b.pins, trace := b.trace }
  intrLine : b.pins.intrLine = s.pins.intrLine
  intrType : b.pins.intrType = s.pins.intrType

/-- The look leaves a state in which nobody is to have the bus, and the CPU takes it back. -/
theorem ComesBack.of_hears {s t b : State} (h : Hears s t) (hn : t.heldBy = none) (hb : t.regain = b) (hq : b.quiet)
    (hsame : t = { s with
      busReleased := t.busReleased, beforeFetch := t.beforeFetch, outside := t.outside, pins := t.pins, trace := t.trace })
    (hline : t.pins.intrLine = s.pins.intrLine) (htype : t.pins.intrType = s.pins.intrType) : ComesBack s b := by
  subst hb
  have again : Hears t.regain t.regain := .of_quiet hq h.resetAsked h.run
  refine ⟨h.step_free hn, ?_, ?_, hline, htype⟩
  · rw [again.step_free (heldBy_regain hn), State.regain_of_none rfl rfl]
  · rw [hsame]
    rfl

theorem heldBy_of_no_request {s : State} (h : s.busRequest = none) : s.heldBy = none := by
  simp [State.heldBy, h]

/-- In each of its four ways the bus is back, with the CPU in the state that is named (R62). -/
theorem comesBack {s b : State} (h : State.busComesBack s b) : ComesBack s b := by
  obtain ⟨hmasters, hreset, hrun, ⟨ho, hfree, rfl⟩ | ⟨hmode, hreleased, ho, rfl⟩ | ⟨hmode, hreleased, hrq, ho, rfl⟩ |
    ⟨hmode, hreleased, hrq, ho, rfl⟩⟩ := h
  · exact .of_hears (.of_quiet ⟨ho, hmasters⟩ hreset hrun) (State.heldBy_of_busFree hfree) rfl ⟨ho, hmasters⟩ rfl rfl rfl
  · refine .of_hears (t := heardLast s [.hold false]) ⟨hear_of_one_entry ho hmasters rfl, hreset, hrun⟩
      (heldBy_of_no_request (busRequest_of_minimum hmode)) ?_ ⟨rfl, hmasters⟩ rfl rfl rfl
    simp [heardLast, State.pinEvent, State.holdLevel, State.giveBack, State.regain, hreleased]
  · refine .of_hears (t := heardLast s [.rq .gt0 false]) ⟨hear_of_one_entry ho hmasters rfl, hreset, hrun⟩
      (heldBy_of_no_request (busRequest_of_no_rq hmode rfl hrq)) ?_ ⟨rfl, hmasters⟩ rfl rfl rfl
    simp [heardLast, State.pinEvent, State.rqPulse, State.giveBack, State.regain, hreleased]
  · refine .of_hears (t := heardLast s [.rq .gt1 false]) ⟨hear_of_one_entry ho hmasters rfl, hreset, hrun⟩
      (heldBy_of_no_request (busRequest_of_no_rq hmode hrq rfl)) ?_ ⟨rfl, hmasters⟩ rfl rfl rfl
    simp [heardLast, State.pinEvent, State.rqPulse, State.giveBack, State.regain, hreleased]

/-! ### What is sampled then -/

/-- The external request that stands in `r` is taken, with `a` the state at the beginning of the sequence and `t` the
one after it (R280). -/
structure Takes (r a t : State) (n : Byte) : Prop where
  taken : r.takeExternal = (t, true)
  entered : State.entered a t n r.ip r.flags
  lock : t.lock = false
  masters : t.masters = []
  unsampled : t.unsampled = r.unsampled

theorem takes_nmi {r : State} (hm : r.masters = []) (hn : r.nmiPending = true) :
    ∃ t, Takes r (r.setLock false) t 2 ∧ t.nmiPending = false := by
  obtain ⟨t, htaken, hentered, ⟨hnmi, -, hunsampled, hlock, -, -, -, -, hmasters, -⟩, -⟩ :=
    State.takeExternal_nmi hm hn
  exact ⟨t, ⟨htaken, hentered, hlock, hmasters.trans hm, hunsampled⟩, hnmi⟩

theorem takes_intr {r : State} (hm : r.masters = []) (hn : r.nmiPending = false) (hline : r.pins.intrLine = true)
    (hif : r.flags.iF = true) : ∃ t, Takes r (r.afterInta r.pins.intrType) t r.pins.intrType := by
  obtain ⟨t, htaken, hentered, ⟨-, -, hunsampled, hlock, -, -, -, -, hmasters, -⟩, -⟩ :=
    State.takeExternal_intr hm hn hline hif
  exact ⟨t, htaken, hentered, hlock, hmasters.trans hm, hunsampled⟩

/-- A trap follows an external request that was taken before it (R287). -/
theorem Takes.then_trap {r a t : State} {n : Byte} (h : Takes r a t n) (hm : r.masters = []) :
    ∃ u, r.sample true false = (u, true) ∧ State.entered t u 1 t.ip t.flags ∧ u.nmiPending = t.nmiPending ∧
      u.unsampled = t.unsampled := by
  have hmasters : r.takeExternal.1.masters = r.masters := by rw [h.taken, h.masters, hm]
  obtain ⟨u, hu, hentered, ⟨hnmi, -, hunsampled, -⟩, -⟩ := State.sample_trap hm false rfl hmasters
  rw [h.taken] at hentered hnmi hunsampled
  exact ⟨u, hu, State.setLock_of_eq h.lock ▸ hentered, hnmi, hunsampled⟩

theorem takeExternal_of_not_due {s : State} (h : s.externalDue = false) : s.takeExternal = (s, false) := by
  simp only [State.externalDue, Bool.or_eq_false_iff] at h
  simp [State.takeExternal, h]

/-- A trap alone (R287). -/
theorem sample_trap_alone {r : State} (hm : r.masters = []) (hn : r.nmiPending = false)
    (hi : r.pins.intrLine = false ∨ r.flags.iF = false) (seq : Bool) : ∃ t, r.sample true seq = (t, true) ∧
      State.entered (r.setLock false) t 1 r.ip r.flags ∧ t.unsampled = r.unsampled := by
  have hnone : r.takeExternal = (r, false) := takeExternal_of_not_due (externalDue_eq_false hn hi)
  obtain ⟨t, ht, hentered, ⟨-, -, hunsampled, -⟩, -⟩ :=
    State.sample_trap hm seq (by rw [hnone, Bool.and_false]) (by rw [hnone])
  rw [hnone] at hentered hunsampled
  exact ⟨t, ht, hentered, hunsampled⟩

/-! ### What was put off -/

theorem prefetch_unsampled (s : State) (w : Option Sampling) (n : Nat) :
    ({ s with unsampled := w } : State).prefetch n = { s.prefetch n with unsampled := w } := by
  unfold State.prefetch
  rw [show ({ s with unsampled := w } : State).deviceAhead n = s.deviceAhead n from rfl]
  split <;> rfl

/-- Reading a WAIT again and what waits for the bus have nothing to do with each other. -/
theorem refetch_unsampled (b : State) (w : Option Sampling) :
    refetch { b with unsampled := w } = { refetch b with unsampled := w } := by
  by_cases hwait : ∃ next, b.run = .waiting next
  · obtain ⟨next, hr⟩ := hwait
    rw [refetch_of_waiting hr, refetch_of_waiting (s := { b with unsampled := w }) hr]
    exact prefetch_unsampled { b with prefetched := 0 } w _
  · have hnot := not_exists.1 hwait
    rw [refetch_of_not_waiting hnot, refetch_of_not_waiting (s := { b with unsampled := w }) hnot]

theorem samplePutOff_of_taken {b t : State} {w : Sampling}
    (h : ({ b with unsampled := none } : State).refetchWait.sample w.tf0 w.seq = (t, true)) :
    b.samplePutOff w = { t with cur := .idle } := by
  simp only [State.samplePutOff, h, if_true]

/-- Nothing is due any more: the CPU goes on where it was. -/
theorem samplePutOff_of_nothing {b : State} {w : Sampling} (htf : w.tf0 = false) (hn : b.nmiPending = false)
    (hi : b.pins.intrLine = false ∨ b.flags.iF = false) : b.samplePutOff w = { b.setLock w.relock with
      unsampled := none
      ip := w.resume
      queue := if w.resume = b.ip then b.queue else []
      prefetched := if w.resume = b.ip then b.prefetched else 0 } := by
  have hdue : ({ b with unsampled := none } : State).externalDue = false := externalDue_eq_false hn hi
  have hnone : ({ b with unsampled := none } : State).refetchWait.sample w.tf0 w.seq =
      ({ b with unsampled := none }, false) := by
    rw [State.refetchWait_of_not_due hdue, htf]
    exact State.sample_of_unrequested (s := { b with unsampled := none }) hn hi w.seq
  simp only [State.samplePutOff, hnone, Bool.false_eq_true, if_false]
  rfl

/-- An external request is due: the WAIT that waits is read again, and the sampling begins there (R292). -/
theorem samplePutOff_of_due {b t : State} {w : Sampling} (hdue : b.externalDue = true)
    (h : ({ refetch b with unsampled := none } : State).sample w.tf0 w.seq = (t, true)) :
    b.samplePutOff w = { t with cur := .idle } := by
  refine samplePutOff_of_taken ?_
  rw [refetchWait_of_due (s := { b with unsampled := none }) hdue, refetch_unsampled, h]

/-- The state in which what was put off is sampled: the WAIT read again, nothing waiting for the bus any more. -/
theorem refetch_same (b : State) : (refetch b).ip = b.ip ∧ (refetch b).flags = b.flags ∧
    (refetch b).nmiPending = b.nmiPending ∧ (refetch b).pins = b.pins ∧ (refetch b).masters = b.masters := by
  obtain ⟨k, d, heard, h⟩ := refetch_spec b
  rw [h]
  exact ⟨rfl, rfl, rfl, rfl, rfl⟩

/-- An NMI that was put off is served from the state in which the WAIT has been read again (R276, R280, R292). -/
theorem takes_nmi_putOff {b : State} (hm : b.masters = []) (hn : b.nmiPending = true) :
    ∃ t, Takes { refetch b with unsampled := none } ((refetch b).setLock false) t 2 ∧ t.nmiPending = false := by
  obtain ⟨-, -, hnmi, -, hmasters⟩ := refetch_same b
  obtain ⟨t, ht, hcleared⟩ := takes_nmi (r := { refetch b with unsampled := none }) (hmasters.trans hm) (hnmi.trans hn)
  exact ⟨t, { ht with }, hcleared⟩

/-- As `takes_nmi_putOff`, for INTR (R276, R281). -/
theorem takes_intr_putOff {b : State} (hm : b.masters = []) (hn : b.nmiPending = false)
    (hline : b.pins.intrLine = true) (hif : b.flags.iF = true) : ∃ t,
    Takes { refetch b with unsampled := none } ((refetch b).afterInta b.pins.intrType) t b.pins.intrType := by
  obtain ⟨-, hflags, hnmi, hpins, hmasters⟩ := refetch_same b
  obtain ⟨t, ht⟩ := takes_intr (r := { refetch b with unsampled := none }) (hmasters.trans hm) (hnmi.trans hn)
    (hpins ▸ hline) (hflags ▸ hif)
  have hpins' : ({ refetch b with unsampled := none } : State).pins = b.pins := hpins
  rw [hpins'] at ht
  exact ⟨t, { ht with }⟩

theorem externalDue_of_nmi {b : State} (hn : b.nmiPending = true) : b.externalDue = true := by
  simp [State.externalDue, hn]

theorem externalDue_of_intr {b : State} (hline : b.pins.intrLine = true) (hif : b.flags.iF = true) :
    b.externalDue = true := by
  simp [State.externalDue, hline, hif]

/-- One external request and no trap: the step takes it (R287). -/
theorem Takes.putOff {b a t : State} {n : Byte} {w : Sampling} (h : Takes { refetch b with unsampled := none } a t n)
    (hdue : b.externalDue = true) (ht : w.tf0 = false ∨ w.seq = true) : ∃ u, b.samplePutOff w = u ∧
      State.entered a u n b.ip b.flags ∧ u.nmiPending = t.nmiPending ∧ u.unsampled = none := by
  obtain ⟨hip, hflags, -⟩ := refetch_same b
  have hentered : State.entered a t n (refetch b).ip (refetch b).flags := h.entered
  rw [hip, hflags] at hentered
  exact ⟨_, samplePutOff_of_due hdue (State.sample_external h.taken ht), hentered, rfl, h.unsampled⟩

/-- An external request and then a trap: the step takes both (R287). -/
theorem Takes.putOff_trap {b a t : State} {n : Byte} {w : Sampling}
    (h : Takes { refetch b with unsampled := none } a t n) (hm : b.masters = []) (hdue : b.externalDue = true)
    (ht : w.tf0 = true) (hseq : w.seq = false) : ∃ u, b.samplePutOff w = u ∧ State.entered a t n b.ip b.flags ∧
      State.entered t u 1 t.ip t.flags ∧ u.nmiPending = t.nmiPending ∧ u.unsampled = none := by
  obtain ⟨hip, hflags, -, -, hmasters⟩ := refetch_same b
  obtain ⟨u, hu, htrap, hnmi, hunsampled⟩ := h.then_trap (hmasters.trans hm)
  have hentered : State.entered a t n (refetch b).ip (refetch b).flags := h.entered
  rw [hip, hflags] at hentered
  exact ⟨_, samplePutOff_of_due hdue (by rw [ht, hseq]; exact hu), hentered, htrap, hnmi,
    hunsampled.trans h.unsampled⟩

/-- A trap alone that was put off. -/
theorem samplePutOff_trap {b : State} {w : Sampling} (hm : b.masters = []) (ht : w.tf0 = true)
    (hn : b.nmiPending = false) (hi : b.pins.intrLine = false ∨ b.flags.iF = false) : ∃ u, b.samplePutOff w = u ∧
      State.entered (b.setLock false) u 1 b.ip b.flags ∧ u.unsampled = none := by
  have hdue : ({ b with unsampled := none } : State).externalDue = false := externalDue_eq_false hn hi
  obtain ⟨t, hsample, hentered, hunsampled⟩ := sample_trap_alone (r := { b with unsampled := none }) hm hn hi w.seq
  exact ⟨_, samplePutOff_of_taken (by rw [State.refetchWait_of_not_due hdue, ht]; exact hsample), hentered, hunsampled⟩

/-- What was put off is sampled in every case: nothing is due any more, an external request, a trap, or a request and then
the trap (R279, R287). -/
theorem putOff_sampled {b : State} (hm : b.masters = []) (w : Sampling) : ∃ r, State.refetched b r ∧
    (w.tf0 = false → b.nmiPending = false → b.pins.intrLine = false ∨ b.flags.iF = false →
      (.next (b.samplePutOff w) : Outcome) = .next { b.setLock w.relock with
        unsampled := none
        ip := w.resume
        queue := if w.resume = b.ip then b.queue else []
        prefetched := if w.resume = b.ip then b.prefetched else 0 }) ∧
    (w.tf0 = false ∨ w.seq = true →
      (b.nmiPending = true → ∃ t, (.next (b.samplePutOff w) : Outcome) = .next t ∧
        State.entered (r.setLock false) t 2 b.ip b.flags ∧ t.nmiPending = false ∧ t.unsampled = none) ∧
      (b.nmiPending = false → b.pins.intrLine = true → b.flags.iF = true → ∃ t,
        (.next (b.samplePutOff w) : Outcome) = .next t ∧
        State.entered (r.afterInta b.pins.intrType) t b.pins.intrType b.ip b.flags ∧ t.unsampled = none)) ∧
    (w.tf0 = true → b.nmiPending = false → b.pins.intrLine = false ∨ b.flags.iF = false →
      ∃ t, (.next (b.samplePutOff w) : Outcome) = .next t ∧ State.entered (b.setLock false) t 1 b.ip b.flags ∧
        t.unsampled = none) ∧
    (w.tf0 = true → w.seq = false →
      (b.nmiPending = true → ∃ u t, (.next (b.samplePutOff w) : Outcome) = .next t ∧
        State.entered (r.setLock false) u 2 b.ip b.flags ∧ State.entered u t 1 u.ip u.flags ∧
        t.nmiPending = false ∧ t.unsampled = none) ∧
      (b.nmiPending = false → b.pins.intrLine = true → b.flags.iF = true → ∃ u t,
        (.next (b.samplePutOff w) : Outcome) = .next t ∧
        State.entered (r.afterInta b.pins.intrType) u b.pins.intrType b.ip b.flags ∧
        State.entered u t 1 u.ip u.flags ∧ t.unsampled = none)) := by
  refine ⟨refetch b, refetched_refetch b, ?nothing, fun ht => ⟨?nmi, ?intr⟩, ?trap,
    fun ht hseq => ⟨?nmiTrap, ?intrTrap⟩⟩
  case nothing => exact fun htf hn hi => congrArg Host.Outcome.next (samplePutOff_of_nothing htf hn hi)
  case nmi =>
    intro hn
    obtain ⟨u, takes, hcleared⟩ := takes_nmi_putOff hm hn
    obtain ⟨t, hstep, hentered, hnmi, hunsampled⟩ := takes.putOff (externalDue_of_nmi hn) ht
    exact ⟨t, congrArg _ hstep, hentered, hnmi.trans hcleared, hunsampled⟩
  case intr =>
    intro hn hline hif
    obtain ⟨u, takes⟩ := takes_intr_putOff hm hn hline hif
    obtain ⟨t, hstep, hentered, -, hunsampled⟩ := takes.putOff (externalDue_of_intr hline hif) ht
    exact ⟨t, congrArg _ hstep, hentered, hunsampled⟩
  case trap =>
    intro ht hn hi
    obtain ⟨t, hstep, hentered, hunsampled⟩ := samplePutOff_trap hm ht hn hi
    exact ⟨t, congrArg _ hstep, hentered, hunsampled⟩
  case nmiTrap =>
    intro hn
    obtain ⟨u, takes, hcleared⟩ := takes_nmi_putOff hm hn
    obtain ⟨t, hstep, hentered, htrap, hnmi, hunsampled⟩ := takes.putOff_trap hm (externalDue_of_nmi hn) ht hseq
    exact ⟨u, t, congrArg _ hstep, hentered, htrap, hnmi.trans hcleared, hunsampled⟩
  case intrTrap =>
    intro hn hline hif
    obtain ⟨u, takes⟩ := takes_intr_putOff hm hn hline hif
    obtain ⟨t, hstep, hentered, htrap, -, hunsampled⟩ :=
      takes.putOff_trap hm (externalDue_of_intr hline hif) ht hseq
    exact ⟨u, t, congrArg _ hstep, hentered, htrap, hunsampled⟩

/-! ### The obligation -/

/-- Settles O50: a request first, as the pins have it; a master that asks again; and the bus that comes back, from which
the step goes on as from the state it comes back in. -/
theorem busRequestsComeFirst : Obligations.BusRequestsComeFirst := by
  refine ⟨?request, ?again, ?back⟩
  case request =>
    rintro s _ m call hq hreset hrun hlock hpins rfl
    obtain ⟨hm, rfl⟩ := busRequest_of_pins hpins
    obtain ⟨hstep, hasked⟩ := step_of_request hq hreset hrun hlock hm rfl
    refine ⟨fun hnot => ?_, fun next hwait htest hnone => ⟨fun htf hn hi => ?_, fun hdue => ?_⟩⟩
    · exact hstep.trans (congrArg Host.Outcome.next (State.idleHeld_of_not_waiting (s := s.release m) hnot))
    all_goals
      rw [State.idleHeld_of_waiting (s := s.release m) hwait hnone htest,
        endWait_of_asked (s := s.release m) hlock hasked next] at hstep
    · have hidle : (s.flags.tF || s.externalDue) = false := by rw [htf, externalDue_eq_false hn hi, Bool.or_false]
      exact hstep.trans (congrArg Host.Outcome.next (if_neg (Bool.eq_false_iff.1 hidle)))
    · have hdue : (s.flags.tF || s.externalDue) = true := by simpa [State.externalDue] using hdue
      exact hstep.trans (congrArg Host.Outcome.next (if_pos hdue))
  case again =>
    intro s hmasters hreset hrun hlock
    exact ⟨fun hmode hreleased h0 ho => step_of_rq1_again hmasters hreset hrun hlock hmode hreleased h0 ho,
      fun hmode hreleased ho => step_of_hold_again hmasters hreset hrun hlock hmode hreleased ho⟩
  case back =>
    intro s b hback
    have back := comesBack hback
    refine ⟨back.step_eq.trans back.step_back.symm, fun w hw _ => ?_⟩
    have hunsampled : b.unsampled = s.unsampled := (congrArg State.unsampled back.same :)
    have hip : b.ip = s.ip := (congrArg State.ip back.same :)
    have hflags : b.flags = s.flags := (congrArg State.flags back.same :)
    have hqueue : b.queue = s.queue := (congrArg State.queue back.same :)
    have hread : b.prefetched = s.prefetched := (congrArg State.prefetched back.same :)
    have hnmi : b.nmiPending = s.nmiPending := (congrArg State.nmiPending back.same :)
    have hmasters : b.masters = [] := Eq.trans (congrArg State.masters back.same :) hback.1
    rw [back.step_eq, withBus_of_unsampled (hunsampled.trans hw), ← hip, ← hflags, ← hqueue, ← hread, ← hnmi,
      ← back.intrLine, ← back.intrType]
    exact putOff_sampled hmasters w

end Sys2Proof.Proofs
end

section
/-! PROOFS. The fields of the second byte and the r/m operand (spec/30_encoding.md R73 to R79): what each field reads of
what the encoder writes, and that the decoder reads an operand exactly where the encoder writes it. -/
namespace Sys2Proof
open Sys2Proof.Laws

/-! ### Fields -/

/-- Every three-bit code is one of eight. -/
theorem forall_code {P : BitVec 3 → Prop} (h0 : P 0) (h1 : P 1) (h2 : P 2) (h3 : P 3) (h4 : P 4) (h5 : P 5) (h6 : P 6)
    (h7 : P 7) (c : BitVec 3) : P c := by
  have hc : c = 0 ∨ c = 1 ∨ c = 2 ∨ c = 3 ∨ c = 4 ∨ c = 5 ∨ c = 6 ∨ c = 7 := by revert c; decide
  rcases hc with rfl | rfl | rfl | rfl | rfl | rfl | rfl | rfl <;> assumption

@[simp] theorem modField_mkModrm (md : BitVec 2) (reg rm : BitVec 3) : modField (mkModrm md reg rm) = md := by
  ext i hi
  simp only [mkModrm, modField, BitVec.getElem_extractLsb', BitVec.getLsbD_append]
  grind

@[simp] theorem regField_mkModrm (md : BitVec 2) (reg rm : BitVec 3) : regField (mkModrm md reg rm) = reg := by
  ext i hi
  simp only [mkModrm, regField, BitVec.getElem_extractLsb', BitVec.getLsbD_append]
  grind

@[simp] theorem rmField_mkModrm (md : BitVec 2) (reg rm : BitVec 3) : rmField (mkModrm md reg rm) = rm := by
  ext i hi
  simp only [mkModrm, rmField, BitVec.getElem_extractLsb', BitVec.getLsbD_append]
  grind

/-- The second byte has its three fields and nothing else (R73). -/
@[simp] theorem mkModrm_fields (b : Byte) : mkModrm (modField b) (regField b) (rmField b) = b := by
  ext i hi
  simp only [mkModrm, modField, regField, rmField]
  grind

@[simp] theorem mkModrm_eq_iff {b : Byte} {md : BitVec 2} {reg rm : BitVec 3} :
    mkModrm md reg rm = b ↔ modField b = md ∧ regField b = reg ∧ rmField b = rm :=
  ⟨by rintro rfl; simp, by rintro ⟨rfl, rfl, rfl⟩; simp⟩

@[simp] theorem Reg8.code_ofCode (c : BitVec 3) : (Reg8.ofCode c).code = c :=
  forall_code (P := fun c => (Reg8.ofCode c).code = c) rfl rfl rfl rfl rfl rfl rfl rfl c

@[simp] theorem Reg16.code_ofCode (c : BitVec 3) : (Reg16.ofCode c).code = c :=
  forall_code (P := fun c => (Reg16.ofCode c).code = c) rfl rfl rfl rfl rfl rfl rfl rfl c

@[simp] theorem EaBase.code_ofCode (c : BitVec 3) : (EaBase.ofCode c).code = c :=
  forall_code (P := fun c => (EaBase.ofCode c).code = c) rfl rfl rfl rfl rfl rfl rfl rfl c

@[simp] theorem Reg8.ofCode_code (r : Reg8) : Reg8.ofCode r.code = r := by cases r <;> rfl

@[simp] theorem Reg16.ofCode_code (r : Reg16) : Reg16.ofCode r.code = r := by cases r <;> rfl

@[simp] theorem EaBase.ofCode_code (b : EaBase) : EaBase.ofCode b.code = b := by cases b <;> rfl

theorem Reg8.ofCode_eq_iff {c : BitVec 3} {r : Reg8} : Reg8.ofCode c = r ↔ c = r.code :=
  ⟨by rintro rfl; simp, by rintro rfl; simp⟩

theorem Reg16.ofCode_eq_iff {c : BitVec 3} {r : Reg16} : Reg16.ofCode c = r ↔ c = r.code :=
  ⟨by rintro rfl; simp, by rintro rfl; simp⟩

/-- A segment register stands in REG with bit 5 of the second byte clear (R79, R104). -/
theorem regField_eq_sreg_iff (m : Byte) (r : SReg) :
    regField m = r.code.setWidth 3 ↔ m.getLsbD 5 = false ∧ SReg.ofCode (m.extractLsb' 3 2) = r := by
  have hbit : m.getLsbD 5 = (regField m).getLsbD 2 := by simp [regField]
  have hlow : m.extractLsb' 3 2 = (regField m).setWidth 2 := by ext i hi; simp [regField]; omega
  rw [hbit, hlow]
  generalize regField m = c
  revert c
  cases r <;> decide

/-- The reserved forms of 8CH are those with bit 5 of the second byte set (R104). -/
theorem regIn_upper_half (m : Byte) : regIn m [4, 5, 6, 7] = m.getLsbD 5 := by
  have hbit : m.getLsbD 5 = (regField m).getLsbD 2 := by simp [regField]
  rw [hbit, regIn, ← regField]
  generalize regField m = c
  revert c
  decide

/-- The R/M code 110 without displacement stands for the direct address (R76). -/
theorem MemOp.wf_indexed_absent {b : EaBase} : (MemOp.indexed b .absent).wf = true ↔ b.code ≠ 6 := by
  cases b <;> decide

theorem encWord_append_eq_iff {w : Word} {rest bs : List Byte} :
    encWord w ++ rest = bs ↔ ∃ lo hi, bs = lo :: hi :: rest ∧ wordOf lo hi = w := by
  constructor
  · rintro rfl
    exact ⟨_, _, rfl, Machine.wordOf_lo_hi w⟩
  · rintro ⟨lo, hi, rfl, rfl⟩
    have hlo := Machine.loByte_wordOf lo hi
    have hhi := Machine.hiByte_wordOf lo hi
    exact congrArg₂ (fun a b => a :: b :: rest) hlo hhi

/-! ### The r/m operand -/

/-- A memory operand is read exactly where it is written (R74, R76, R77). -/
theorem takeMem_eq_some_iff {b : Byte} {reg : BitVec 3} {bs rest : List Byte} {m : MemOp} :
    (modField b ≠ 3 ∧ takeMem (modField b) (rmField b) bs = some (m, rest)) ∧ regField b = reg ↔
      m.wf = true ∧ encMem m reg ++ rest = b :: bs := by
  constructor
  · rintro ⟨⟨h3, hm⟩, rfl⟩
    unfold takeMem at hm
    split_ifs at hm with h0 h6 h1
    · split at hm <;> cases hm
      simp [encMem, MemOp.wf, encWord_append_eq_iff, *]
    · cases hm
      simpa [encMem, MemOp.wf_indexed_absent, h0] using h6
    · split at hm <;> cases hm
      simp [encMem, MemOp.wf, *]
    · have h2 : modField b = 2 := by
        generalize modField b = md at *
        revert md
        decide
      split at hm <;> cases hm
      simp [encMem, MemOp.wf, encWord_append_eq_iff, *]
  · rintro ⟨hw, h⟩
    rcases m with off | ⟨base, _ | d | w⟩
    case direct =>
      obtain ⟨⟨hmd, hreg, hrm⟩, lo, hi, rfl, rfl⟩ := by simpa [encMem, encWord_append_eq_iff] using h
      simp [takeMem, *]
    case indexed.absent =>
      obtain ⟨⟨hmd, hreg, hrm⟩, rfl⟩ := by simpa [encMem] using h
      have hbase := MemOp.wf_indexed_absent.1 hw
      simp_all [takeMem]
    case indexed.d8 =>
      obtain ⟨⟨hmd, hreg, hrm⟩, rfl⟩ := by simpa [encMem] using h
      simp [takeMem, *]
    case indexed.d16 =>
      obtain ⟨⟨hmd, hreg, hrm⟩, lo, hi, rfl, rfl⟩ := by simpa [encMem, encWord_append_eq_iff] using h
      simp [takeMem, *]

theorem takeEb_of_reg {b : Byte} (h : modField b = 3) (bs : List Byte) :
    takeEb b bs = some (.reg (Reg8.ofCode (rmField b)), bs) := if_pos h

theorem takeEb_of_mem {b : Byte} (h : modField b ≠ 3) (bs : List Byte) :
    takeEb b bs = (takeMem (modField b) (rmField b) bs).map fun p => (.mem p.1, p.2) := if_neg h

theorem takeEv_of_reg {b : Byte} (h : modField b = 3) (bs : List Byte) :
    takeEv b bs = some (.reg (Reg16.ofCode (rmField b)), bs) := if_pos h

theorem takeEv_of_mem {b : Byte} (h : modField b ≠ 3) (bs : List Byte) :
    takeEv b bs = (takeMem (modField b) (rmField b) bs).map fun p => (.mem p.1, p.2) := if_neg h

theorem takeEb_eq_some_iff {b : Byte} {reg : BitVec 3} {bs rest : List Byte} {e : Eb} :
    takeEb b bs = some (e, rest) ∧ regField b = reg ↔ e.wf = true ∧ encEb e reg ++ rest = b :: bs := by
  by_cases h3 : modField b = 3#2
  · rw [takeEb_of_reg h3]
    cases e with
    | reg r =>
      simp only [encEb, Eb.wf, Reg8.ofCode_eq_iff, mkModrm_eq_iff, h3, Option.some.injEq, Prod.mk.injEq, Eb.reg.injEq,
        List.cons_append, List.nil_append, List.cons.injEq, true_and]
      tauto
    | mem m =>
      rw [Eb.wf, encEb, ← takeMem_eq_some_iff]
      simp [h3]
  · rw [takeEb_of_mem h3]
    cases e with
    | reg r => simp [encEb, h3]
    | mem m =>
      rw [Eb.wf, encEb, ← takeMem_eq_some_iff]
      simp [h3]

theorem takeEv_eq_some_iff {b : Byte} {reg : BitVec 3} {bs rest : List Byte} {e : Ev} :
    takeEv b bs = some (e, rest) ∧ regField b = reg ↔ e.wf = true ∧ encEv e reg ++ rest = b :: bs := by
  by_cases h3 : modField b = 3#2
  · rw [takeEv_of_reg h3]
    cases e with
    | reg r =>
      simp only [encEv, Ev.wf, Reg16.ofCode_eq_iff, mkModrm_eq_iff, h3, Option.some.injEq, Prod.mk.injEq, Ev.reg.injEq,
        List.cons_append, List.nil_append, List.cons.injEq, true_and]
      tauto
    | mem m =>
      rw [Ev.wf, encEv, ← takeMem_eq_some_iff]
      simp [h3]
  · rw [takeEv_of_mem h3]
    cases e with
    | reg r => simp [encEv, h3]
    | mem m =>
      rw [Ev.wf, encEv, ← takeMem_eq_some_iff]
      simp [h3]

/-- Where a memory operand stands, there is a second byte to read it from. -/
theorem exists_takeMem {m : MemOp} {reg : BitVec 3} {bs rest : List Byte}
    (h : m.wf = true ∧ encMem m reg ++ rest = bs) :
    ∃ b tail, bs = b :: tail ∧ regField b = reg ∧ modField b ≠ 3 ∧
      takeMem (modField b) (rmField b) tail = some (m, rest) := by
  obtain ⟨b, tail, henc⟩ := List.exists_cons_of_length_pos (encMem_length m reg).1
  obtain ⟨hw, rfl⟩ := h
  obtain ⟨⟨h3, hm⟩, hreg⟩ := takeMem_eq_some_iff.2 ⟨hw, congrArg (· ++ rest) henc⟩
  exact ⟨b, tail ++ rest, congrArg (· ++ rest) henc, hreg, h3, hm⟩

theorem exists_takeEb {e : Eb} {reg : BitVec 3} {bs rest : List Byte}
    (h : e.wf = true ∧ encEb e reg ++ rest = bs) :
    ∃ b tail, bs = b :: tail ∧ regField b = reg ∧ takeEb b tail = some (e, rest) := by
  obtain ⟨b, tail, henc⟩ := List.exists_cons_of_length_pos (encEb_length e reg).1
  obtain ⟨hw, rfl⟩ := h
  obtain ⟨he, hreg⟩ := takeEb_eq_some_iff.2 ⟨hw, congrArg (· ++ rest) henc⟩
  exact ⟨b, tail ++ rest, congrArg (· ++ rest) henc, hreg, he⟩

theorem exists_takeEv {e : Ev} {reg : BitVec 3} {bs rest : List Byte}
    (h : e.wf = true ∧ encEv e reg ++ rest = bs) :
    ∃ b tail, bs = b :: tail ∧ regField b = reg ∧ takeEv b tail = some (e, rest) := by
  obtain ⟨b, tail, henc⟩ := List.exists_cons_of_length_pos (encEv_length e reg).1
  obtain ⟨hw, rfl⟩ := h
  obtain ⟨he, hreg⟩ := takeEv_eq_some_iff.2 ⟨hw, congrArg (· ++ rest) henc⟩
  exact ⟨b, tail ++ rest, congrArg (· ++ rest) henc, hreg, he⟩

theorem exists_cons_cons {bs : List Byte} (h : 2 ≤ bs.length) : ∃ a b rest, bs = a :: b :: rest := by
  match bs, h with
  | a :: b :: rest, _ => exact ⟨a, b, rest, rfl⟩

/-- A memory operand takes at most two displacement bytes, and is always read when they are there (R77). -/
theorem takeMem_total (md : BitVec 2) (rm : BitVec 3) {bs : List Byte} (h : 2 ≤ bs.length) :
    ∃ m rest, takeMem md rm bs = some (m, rest) ∧ bs.length ≤ rest.length + 2 := by
  obtain ⟨a, b, rest, rfl⟩ := exists_cons_cons h
  unfold takeMem
  split_ifs <;> simp [Nat.add_assoc]

theorem takeEb_total (b : Byte) {bs : List Byte} (h : 2 ≤ bs.length) :
    ∃ e rest, takeEb b bs = some (e, rest) ∧ bs.length ≤ rest.length + 2 := by
  by_cases h3 : modField b = 3#2
  · exact ⟨_, _, takeEb_of_reg h3 bs, Nat.le_add_right _ 2⟩
  · obtain ⟨m, rest, hm, hl⟩ := takeMem_total (modField b) (rmField b) h
    exact ⟨.mem m, rest, by rw [takeEb_of_mem h3, hm]; rfl, hl⟩

theorem takeEv_total (b : Byte) {bs : List Byte} (h : 2 ≤ bs.length) :
    ∃ e rest, takeEv b bs = some (e, rest) ∧ bs.length ≤ rest.length + 2 := by
  by_cases h3 : modField b = 3#2
  · exact ⟨_, _, takeEv_of_reg h3 bs, Nat.le_add_right _ 2⟩
  · obtain ⟨m, rest, hm, hl⟩ := takeMem_total (modField b) (rmField b) h
    exact ⟨.mem m, rest, by rw [takeEv_of_mem h3, hm]; rfl, hl⟩

end Sys2Proof
end

section
/-! PROOFS. What an entry of the opcode map decodes (spec/30_encoding.md R73, R87 to R95): the instructions that an
entry makes, what the encoder writes for them, and that the entry decodes exactly what is written. -/
namespace Sys2Proof
open Sys2Proof.Laws

/-! ### The instructions of an entry -/

/-- The instruction is well formed just when its operands are, as `wf` says, and is written as `bytes`. -/
def Instr.Spelled (i : Instr) (wf : Bool) (bytes : List Byte) : Prop := i.wf = wf ∧ encode i = bytes

/-- Where such an instruction stands, well formed, its operands stand behind its first byte. -/
theorem Instr.Spelled.stands_iff {i : Instr} {wf : Bool} {b : Byte} {tail bs rest : List Byte}
    (h : i.Spelled wf (b :: tail)) :
    (i.wf = true ∧ encode i ++ rest = b :: bs) ↔ wf = true ∧ tail ++ rest = bs := by
  rw [h.1, h.2, List.cons_append, List.cons_inj_right]

/-- The instructions that a group entry under the code `reg` makes. -/
inductive GroupEntry.Makes (reg : BitVec 3) : GroupEntry → Instr → Prop where
  | eb {f : Eb → Instr} (e : Eb) : Makes reg (.eb f) (f e)
  | ev {f : Ev → Instr} (e : Ev) : Makes reg (.ev f) (f e)
  | ebIb {f : Eb → Byte → Instr} (e : Eb) (imm : Byte) : Makes reg (.ebIb f) (f e imm)
  | evIb {f : Ev → Byte → Instr} (e : Ev) (imm : Byte) : Makes reg (.evIb f) (f e imm)
  | evIv {f : Ev → Word → Instr} (e : Ev) (imm : Word) : Makes reg (.evIv f) (f e imm)
  | mem {f : MemOp → Instr} {refused : Reg16 → Instr} (m : MemOp) : Makes reg (.memOnly f refused) (f m)
  | noMem {f : MemOp → Instr} {refused : Reg16 → Instr} (r : Reg16) : Makes reg (.memOnly f refused) (refused r)
  | reserved {f : Byte → Instr} (modrm : Byte) (h : regField modrm = reg) : Makes reg (.reserved f) (f modrm)

/-- The instructions that an entry of the opcode map makes. -/
inductive Form.Makes : Form → Instr → Prop where
  | bare {i : Instr} : Makes (.bare i) i
  | imm8 {f : Byte → Instr} (imm : Byte) : Makes (.imm8 f) (f imm)
  | imm16 {f : Word → Instr} (imm : Word) : Makes (.imm16 f) (f imm)
  | far {f : Word → Word → Instr} (off base : Word) : Makes (.far f) (f off base)
  | ebGb {f : Eb → Reg8 → Instr} (e : Eb) (r : Reg8) : Makes (.ebGb f) (f e r)
  | evGv {f : Ev → Reg16 → Instr} (e : Ev) (r : Reg16) : Makes (.evGv f) (f e r)
  | gbEb {f : Reg8 → Eb → Instr} (r : Reg8) (e : Eb) : Makes (.gbEb f) (f r e)
  | gvEv {f : Reg16 → Ev → Instr} (r : Reg16) (e : Ev) : Makes (.gvEv f) (f r e)
  | gvMem {f : Reg16 → MemOp → Instr} {refused : Reg16 → Reg16 → Instr} (r : Reg16) (m : MemOp) :
    Makes (.gvMem f refused) (f r m)
  | gvNoMem {f : Reg16 → MemOp → Instr} {refused : Reg16 → Reg16 → Instr} (r r' : Reg16) :
    Makes (.gvMem f refused) (refused r r')
  | evSeg {f : Ev → SReg → Instr} {reserved : Byte → Instr} (e : Ev) (r : SReg) :
    Makes (.evSeg f reserved) (f e r)
  | evNoSeg {f : Ev → SReg → Instr} {reserved : Byte → Instr} (modrm : Byte) :
    Makes (.evSeg f reserved) (reserved modrm)
  | constant0A {i : Instr} {refused : Byte → Instr} : Makes (.constant0A i refused) i
  | not0A {i : Instr} {refused : Byte → Instr} (b : Byte) : Makes (.constant0A i refused) (refused b)
  | esc {f : BitVec 3 → Ev → Instr} (y : BitVec 3) (e : Ev) : Makes (.esc f) (f y e)
  | group {g0 g1 g2 g3 g4 g5 g6 g7 : GroupEntry} {i : Instr} (reg : BitVec 3)
    (h : (pickEntry reg g0 g1 g2 g3 g4 g5 g6 g7).Makes reg i) : Makes (.group g0 g1 g2 g3 g4 g5 g6 g7) i

/-! ### What the encoder writes for them -/

/-- The encoder writes the instructions of a group entry under the first byte `b` and the code `reg` (R73). -/
def GroupEntry.Agrees (b : Byte) (reg : BitVec 3) : GroupEntry → Prop
  | .eb f => ∀ e, (f e).Spelled e.wf (b :: encEb e reg)
  | .ev f => ∀ e, (f e).Spelled e.wf (b :: encEv e reg)
  | .ebIb f => ∀ e imm, (f e imm).Spelled e.wf (b :: (encEb e reg ++ [imm]))
  | .evIb f => ∀ e imm, (f e imm).Spelled e.wf (b :: (encEv e reg ++ [imm]))
  | .evIv f => ∀ e imm, (f e imm).Spelled e.wf (b :: (encEv e reg ++ encWord imm))
  | .memOnly f refused =>
    (∀ m, (f m).Spelled m.wf (b :: encMem m reg)) ∧ ∀ r, (refused r).Spelled true [b, mkModrm 3 reg r.code]
  | .reserved f => ∃ regs, reg ∈ regs ∧ ∀ modrm, (f modrm).Spelled (regIn modrm regs) [b, modrm]

/-- The encoder writes the instructions of an entry under the first byte `b` (R88 to R95). -/
def Form.Agrees (b : Byte) : Form → Prop
  | .bare i => i.Spelled true [b]
  | .imm8 f => ∀ imm, (f imm).Spelled true [b, imm]
  | .imm16 f => ∀ imm, (f imm).Spelled true (b :: encWord imm)
  | .far f => ∀ off base, (f off base).Spelled true (b :: (encWord off ++ encWord base))
  | .ebGb f => ∀ e r, (f e r).Spelled e.wf (b :: encEb e r.code)
  | .evGv f => ∀ e r, (f e r).Spelled e.wf (b :: encEv e r.code)
  | .gbEb f => ∀ r e, (f r e).Spelled e.wf (b :: encEb e r.code)
  | .gvEv f => ∀ r e, (f r e).Spelled e.wf (b :: encEv e r.code)
  | .gvMem f refused =>
    (∀ r m, (f r m).Spelled m.wf (b :: encMem m r.code)) ∧
      ∀ r r', (refused r r').Spelled true [b, mkModrm 3 r.code r'.code]
  | .evSeg f reserved =>
    (∀ e r, (f e r).Spelled e.wf (b :: encEv e (r.code.setWidth 3))) ∧
      ∀ modrm, (reserved modrm).Spelled (regIn modrm [4, 5, 6, 7]) [b, modrm]
  | .constant0A i refused => i.Spelled true [b, 0x0A] ∧ ∀ c, (refused c).Spelled (c != 0x0A) [b, c]
  | .esc f => ∀ y e, (f y e).Spelled e.wf (b :: encEv e y)
  | .group g0 g1 g2 g3 g4 g5 g6 g7 => ∀ reg, (pickEntry reg g0 g1 g2 g3 g4 g5 g6 g7).Agrees b reg

/-- A group entry's instructions are one to six bytes long (R70). -/
theorem GroupEntry.Agrees.length {b : Byte} {reg : BitVec 3} {g : GroupEntry} {i : Instr} (h : g.Agrees b reg)
    (hi : g.Makes reg i) : 1 ≤ (encode i).length ∧ (encode i).length ≤ 6 := by
  cases hi with
  | eb e => exact (h e).2 ▸ one_more (encEb_length e reg)
  | ev e => exact (h e).2 ▸ one_more (encEv_length e reg)
  | ebIb e imm => exact (h e imm).2 ▸ one_more_imm8 (encEb_length e reg) imm
  | evIb e imm => exact (h e imm).2 ▸ one_more_imm8 (encEv_length e reg) imm
  | evIv e imm => exact (h e imm).2 ▸ one_more_imm16 (encEv_length e reg) imm
  | mem m => exact (h.1 m).2 ▸ one_more (encMem_length m reg)
  | noMem r => simp [(h.2 r).2]
  | reserved modrm _ =>
    obtain ⟨_, -, h⟩ := h
    simp [(h modrm).2]

/-- An entry's instructions are one to six bytes long (R70). -/
theorem Form.Agrees.length {b : Byte} {form : Form} {i : Instr} (h : form.Agrees b) (hi : form.Makes i) :
    1 ≤ (encode i).length ∧ (encode i).length ≤ 6 := by
  cases hi with
  | bare => simp [h.2]
  | imm8 imm => simp [(h imm).2]
  | imm16 imm => simp [(h imm).2, encWord_length]
  | far off base => simp [(h off base).2, encWord_length]
  | ebGb e r => exact (h e r).2 ▸ one_more (encEb_length e r.code)
  | evGv e r => exact (h e r).2 ▸ one_more (encEv_length e r.code)
  | gbEb r e => exact (h r e).2 ▸ one_more (encEb_length e r.code)
  | gvEv r e => exact (h r e).2 ▸ one_more (encEv_length e r.code)
  | gvMem r m => exact (h.1 r m).2 ▸ one_more (encMem_length m r.code)
  | gvNoMem r r' => simp [(h.2 r r').2]
  | evSeg e r => exact (h.1 e r).2 ▸ one_more (encEv_length e _)
  | evNoSeg modrm => simp [(h.2 modrm).2]
  | constant0A => simp [h.1.2]
  | not0A c => simp [(h.2 c).2]
  | esc y e => exact (h y e).2 ▸ one_more (encEv_length e y)
  | group reg hg => exact (h reg).length hg

/-! ### An entry decodes what is written -/

/-- What a group entry reads is well formed, and its encoding stands there. -/
theorem GroupEntry.stands_of_decode {b m : Byte} {bs rest : List Byte} {g : GroupEntry} {i : Instr}
    (h : g.Agrees b (regField m)) (hd : g.decode m bs = some (i, rest)) :
    i.wf = true ∧ encode i ++ rest = b :: m :: bs := by
  cases g with
  | eb f =>
    obtain ⟨⟨e, _⟩, he, ⟨⟩⟩ := Option.map_eq_some_iff.1 hd
    exact (h e).stands_iff.2 (takeEb_eq_some_iff.1 ⟨he, rfl⟩)
  | ev f =>
    obtain ⟨⟨e, _⟩, he, ⟨⟩⟩ := Option.map_eq_some_iff.1 hd
    exact (h e).stands_iff.2 (takeEv_eq_some_iff.1 ⟨he, rfl⟩)
  | ebIb f =>
    dsimp only [GroupEntry.decode] at hd
    split at hd <;> cases hd
    next e imm he =>
      obtain ⟨hw, hb⟩ := takeEb_eq_some_iff.1 ⟨he, rfl⟩
      exact (h e imm).stands_iff.2 ⟨hw, by simpa using hb⟩
  | evIb f =>
    dsimp only [GroupEntry.decode] at hd
    split at hd <;> cases hd
    next e imm he =>
      obtain ⟨hw, hb⟩ := takeEv_eq_some_iff.1 ⟨he, rfl⟩
      exact (h e imm).stands_iff.2 ⟨hw, by simpa using hb⟩
  | evIv f =>
    dsimp only [GroupEntry.decode] at hd
    split at hd <;> cases hd
    next e lo hi he =>
      obtain ⟨hw, hb⟩ := takeEv_eq_some_iff.1 ⟨he, rfl⟩
      refine (h e _).stands_iff.2 ⟨hw, ?_⟩
      rw [List.append_assoc, encWord_append_eq_iff.2 ⟨lo, hi, rfl, rfl⟩, hb]
  | memOnly f refused =>
    obtain ⟨hmem, hreg⟩ := h
    dsimp only [GroupEntry.decode] at hd
    split_ifs at hd with h3
    · cases hd
      exact (hreg _).stands_iff.2 ⟨rfl, by simp [h3]⟩
    · obtain ⟨⟨o, _⟩, ho, ⟨⟩⟩ := Option.map_eq_some_iff.1 hd
      exact (hmem o).stands_iff.2 (takeMem_eq_some_iff.1 ⟨⟨h3, ho⟩, rfl⟩)
  | reserved f =>
    obtain ⟨regs, hreg, h⟩ := h
    cases hd
    exact (h m).stands_iff.2 ⟨List.contains_iff_mem.2 hreg, rfl⟩

/-- Where a well-formed instruction of a group entry stands, the entry reads it from a second byte with its code. -/
theorem GroupEntry.exists_decode {b : Byte} {reg : BitVec 3} {bs rest : List Byte} {g : GroupEntry} {i : Instr}
    (h : g.Agrees b reg) (hi : g.Makes reg i) (hs : i.wf = true ∧ encode i ++ rest = b :: bs) :
    ∃ m tail, bs = m :: tail ∧ regField m = reg ∧ g.decode m tail = some (i, rest) := by
  cases hi with
  | eb e =>
    obtain ⟨m, tail, hb, hreg, he⟩ := exists_takeEb ((h e).stands_iff.1 hs)
    exact ⟨m, tail, hb, hreg, Option.map_eq_some_iff.2 ⟨_, he, rfl⟩⟩
  | ev e =>
    obtain ⟨m, tail, hb, hreg, he⟩ := exists_takeEv ((h e).stands_iff.1 hs)
    exact ⟨m, tail, hb, hreg, Option.map_eq_some_iff.2 ⟨_, he, rfl⟩⟩
  | ebIb e imm =>
    obtain ⟨hw, hb⟩ := (h e imm).stands_iff.1 hs
    rw [List.append_assoc] at hb
    obtain ⟨m, tail, hb, hreg, he⟩ := exists_takeEb ⟨hw, hb⟩
    exact ⟨m, tail, hb, hreg, by simp [GroupEntry.decode, he]⟩
  | evIb e imm =>
    obtain ⟨hw, hb⟩ := (h e imm).stands_iff.1 hs
    rw [List.append_assoc] at hb
    obtain ⟨m, tail, hb, hreg, he⟩ := exists_takeEv ⟨hw, hb⟩
    exact ⟨m, tail, hb, hreg, by simp [GroupEntry.decode, he]⟩
  | evIv e imm =>
    obtain ⟨hw, hb⟩ := (h e imm).stands_iff.1 hs
    obtain ⟨lo, hi, himm, rfl⟩ := encWord_append_eq_iff.1 (Eq.refl (encWord imm ++ rest))
    rw [List.append_assoc, himm] at hb
    obtain ⟨m, tail, hb, hreg, he⟩ := exists_takeEv ⟨hw, hb⟩
    exact ⟨m, tail, hb, hreg, by simp [GroupEntry.decode, he]⟩
  | mem o =>
    obtain ⟨m, tail, hb, hreg, h3, ho⟩ := exists_takeMem ((h.1 o).stands_iff.1 hs)
    exact ⟨m, tail, hb, hreg, (if_neg h3).trans (Option.map_eq_some_iff.2 ⟨_, ho, rfl⟩)⟩
  | noMem r =>
    obtain ⟨-, hb⟩ := (h.2 r).stands_iff.1 hs
    exact ⟨_, _, hb.symm, by simp, by simp [GroupEntry.decode]⟩
  | reserved modrm hreg =>
    obtain ⟨_, -, h⟩ := h
    obtain ⟨-, hb⟩ := (h modrm).stands_iff.1 hs
    exact ⟨_, _, hb.symm, hreg, rfl⟩

/-- What an entry of the opcode map reads is well formed, and its encoding stands there. -/
theorem Form.stands_of_decode {b : Byte} {bs rest : List Byte} {form : Form} {i : Instr} (h : form.Agrees b)
    (hd : form.decode bs = some (i, rest)) : i.wf = true ∧ encode i ++ rest = b :: bs := by
  rcases bs with _ | ⟨m, bs⟩
  case nil =>
    cases form with
    | bare =>
      cases hd
      exact h.stands_iff.2 ⟨rfl, rfl⟩
    | _ => contradiction
  cases form with
  | bare =>
    cases hd
    exact h.stands_iff.2 ⟨rfl, rfl⟩
  | imm8 =>
    cases hd
    exact (h m).stands_iff.2 ⟨rfl, rfl⟩
  | imm16 =>
    rcases bs with _ | ⟨hi, bs⟩ <;> cases hd
    exact (h _).stands_iff.2 ⟨rfl, encWord_append_eq_iff.2 ⟨_, _, rfl, rfl⟩⟩
  | far =>
    rcases bs with _ | ⟨hi, _ | ⟨lo', _ | ⟨hi', bs⟩⟩⟩ <;> cases hd
    refine (h _ _).stands_iff.2 ⟨rfl, ?_⟩
    rw [List.append_assoc, encWord_append_eq_iff.2 ⟨_, _, rfl, rfl⟩, encWord_append_eq_iff.2 ⟨_, _, rfl, rfl⟩]
  | ebGb =>
    obtain ⟨⟨e, _⟩, he, ⟨⟩⟩ := Option.map_eq_some_iff.1 hd
    exact (h e _).stands_iff.2 (takeEb_eq_some_iff.1 ⟨he, by simp⟩)
  | evGv =>
    obtain ⟨⟨e, _⟩, he, ⟨⟩⟩ := Option.map_eq_some_iff.1 hd
    exact (h e _).stands_iff.2 (takeEv_eq_some_iff.1 ⟨he, by simp⟩)
  | gbEb =>
    obtain ⟨⟨e, _⟩, he, ⟨⟩⟩ := Option.map_eq_some_iff.1 hd
    exact (h _ e).stands_iff.2 (takeEb_eq_some_iff.1 ⟨he, by simp⟩)
  | gvEv =>
    obtain ⟨⟨e, _⟩, he, ⟨⟩⟩ := Option.map_eq_some_iff.1 hd
    exact (h _ e).stands_iff.2 (takeEv_eq_some_iff.1 ⟨he, by simp⟩)
  | gvMem =>
    obtain ⟨hmem, hreg⟩ := h
    dsimp only [Form.decode] at hd
    split_ifs at hd with h3
    · cases hd
      exact (hreg _ _).stands_iff.2 ⟨rfl, by simp [h3]⟩
    · obtain ⟨⟨o, _⟩, ho, ⟨⟩⟩ := Option.map_eq_some_iff.1 hd
      exact (hmem _ o).stands_iff.2 (takeMem_eq_some_iff.1 ⟨⟨h3, ho⟩, by simp⟩)
  | evSeg =>
    obtain ⟨hseg, hreserved⟩ := h
    dsimp only [Form.decode] at hd
    split_ifs at hd with h5
    · cases hd
      exact (hreserved m).stands_iff.2 ⟨(regIn_upper_half m).trans h5, rfl⟩
    · obtain ⟨⟨e, _⟩, he, ⟨⟩⟩ := Option.map_eq_some_iff.1 hd
      have hreg := (regField_eq_sreg_iff m _).2 ⟨Bool.eq_false_iff.2 h5, rfl⟩
      exact (hseg e _).stands_iff.2 (takeEv_eq_some_iff.1 ⟨he, hreg⟩)
  | constant0A =>
    obtain ⟨h0A, hother⟩ := h
    cases hd
    split_ifs with hm
    · exact h0A.stands_iff.2 ⟨rfl, by simp [hm]⟩
    · exact (hother m).stands_iff.2 ⟨bne_iff_ne.2 hm, rfl⟩
  | esc =>
    obtain ⟨⟨e, _⟩, he, ⟨⟩⟩ := Option.map_eq_some_iff.1 hd
    exact (h _ e).stands_iff.2 (takeEv_eq_some_iff.1 ⟨he, rfl⟩)
  | group => exact GroupEntry.stands_of_decode (h (regField m)) hd

/-- Where a well-formed instruction of an entry stands, the entry reads it. -/
theorem Form.decode_of_stands {b : Byte} {bs rest : List Byte} {form : Form} {i : Instr} (h : form.Agrees b)
    (hi : form.Makes i) (hs : i.wf = true ∧ encode i ++ rest = b :: bs) : form.decode bs = some (i, rest) := by
  cases hi with
  | bare =>
    obtain ⟨-, rfl⟩ := h.stands_iff.1 hs
    rfl
  | imm8 imm =>
    obtain ⟨-, rfl⟩ := (h imm).stands_iff.1 hs
    rfl
  | imm16 imm =>
    obtain ⟨-, hb⟩ := (h imm).stands_iff.1 hs
    obtain ⟨lo, hi, rfl, rfl⟩ := encWord_append_eq_iff.1 hb
    rfl
  | far off base =>
    obtain ⟨-, hb⟩ := (h off base).stands_iff.1 hs
    rw [List.append_assoc] at hb
    obtain ⟨lo, hi, rfl, rfl⟩ := encWord_append_eq_iff.1 hb
    obtain ⟨lo', hi', hbase, rfl⟩ := encWord_append_eq_iff.1 (Eq.refl (encWord base ++ rest))
    rw [hbase]
    rfl
  | ebGb e r =>
    obtain ⟨m, bs, rfl, hreg, he⟩ := exists_takeEb ((h e r).stands_iff.1 hs)
    simp [Form.decode, he, hreg]
  | evGv e r =>
    obtain ⟨m, bs, rfl, hreg, he⟩ := exists_takeEv ((h e r).stands_iff.1 hs)
    simp [Form.decode, he, hreg]
  | gbEb r e =>
    obtain ⟨m, bs, rfl, hreg, he⟩ := exists_takeEb ((h r e).stands_iff.1 hs)
    simp [Form.decode, he, hreg]
  | gvEv r e =>
    obtain ⟨m, bs, rfl, hreg, he⟩ := exists_takeEv ((h r e).stands_iff.1 hs)
    simp [Form.decode, he, hreg]
  | gvMem r o =>
    obtain ⟨m, bs, rfl, hreg, h3, ho⟩ := exists_takeMem ((h.1 r o).stands_iff.1 hs)
    exact (if_neg h3).trans (Option.map_eq_some_iff.2 ⟨_, ho, by simp [hreg]⟩)
  | gvNoMem r r' =>
    obtain ⟨-, rfl⟩ := (h.2 r r').stands_iff.1 hs
    simp [Form.decode]
  | evSeg e r =>
    obtain ⟨m, bs, rfl, hreg, he⟩ := exists_takeEv ((h.1 e r).stands_iff.1 hs)
    obtain ⟨h5, hr⟩ := (regField_eq_sreg_iff m r).1 hreg
    exact (if_neg (by simpa using h5)).trans (Option.map_eq_some_iff.2 ⟨_, he, by simp [hr]⟩)
  | evNoSeg modrm =>
    obtain ⟨h5, rfl⟩ := (h.2 modrm).stands_iff.1 hs
    exact if_pos ((regIn_upper_half modrm).symm.trans h5)
  | constant0A =>
    obtain ⟨-, rfl⟩ := h.1.stands_iff.1 hs
    rfl
  | not0A c =>
    obtain ⟨hc, rfl⟩ := (h.2 c).stands_iff.1 hs
    exact congrArg (fun i => some (i, rest)) (if_neg (bne_iff_ne.1 hc))
  | esc y e =>
    obtain ⟨m, bs, rfl, hreg, he⟩ := exists_takeEv ((h y e).stands_iff.1 hs)
    simp [Form.decode, he, hreg]
  | group reg hg =>
    obtain ⟨m, bs, rfl, rfl, hd⟩ := GroupEntry.exists_decode (h reg) hg hs
    exact hd

/-! ### Six bytes are enough -/

/-- Behind the second byte a group entry needs at most four bytes (R70). -/
theorem GroupEntry.decode_total (g : GroupEntry) (m : Byte) {bs : List Byte} (h : 4 ≤ bs.length) :
    ∃ p, g.decode m bs = some p := by
  obtain ⟨eb, bs8, heb, hl8⟩ := takeEb_total m (bs := bs) (by omega)
  obtain ⟨ev, bs16, hev, hl16⟩ := takeEv_total m (bs := bs) (by omega)
  obtain ⟨lo, hi, bs8, rfl⟩ := exists_cons_cons (bs := bs8) (by omega)
  obtain ⟨lo', hi', bs16, rfl⟩ := exists_cons_cons (bs := bs16) (by omega)
  cases g with
  | eb | ebIb => simp [GroupEntry.decode, heb]
  | ev | evIb | evIv => simp [GroupEntry.decode, hev]
  | memOnly =>
    obtain ⟨o, rest, ho, -⟩ := takeMem_total (modField m) (rmField m) (bs := bs) (by omega)
    dsimp only [GroupEntry.decode]
    split_ifs
    · exact ⟨_, rfl⟩
    · exact ⟨_, Option.map_eq_some_iff.2 ⟨_, ho, rfl⟩⟩
  | reserved => exact ⟨_, rfl⟩

/-- Behind the first byte an entry of the opcode map needs at most five bytes (R70). -/
theorem Form.decode_total (form : Form) {bs : List Byte} (h : 5 ≤ bs.length) : ∃ p, form.decode bs = some p := by
  obtain ⟨m, lo, bs, rfl⟩ := exists_cons_cons (bs := bs) (by omega)
  obtain ⟨hi, lo', bs, rfl⟩ := exists_cons_cons (bs := bs) (by simp at h; omega)
  obtain ⟨eb, bs8, heb, -⟩ := takeEb_total m (bs := lo :: hi :: lo' :: bs) (by simp)
  obtain ⟨ev, bs16, hev, -⟩ := takeEv_total m (bs := lo :: hi :: lo' :: bs) (by simp)
  cases form with
  | bare | imm8 | imm16 | far | constant0A => exact ⟨_, rfl⟩
  | ebGb | gbEb => exact ⟨_, Option.map_eq_some_iff.2 ⟨_, heb, rfl⟩⟩
  | evGv | gvEv | esc => exact ⟨_, Option.map_eq_some_iff.2 ⟨_, hev, rfl⟩⟩
  | gvMem =>
    obtain ⟨o, rest, ho, -⟩ := takeMem_total (modField m) (rmField m) (bs := lo :: hi :: lo' :: bs) (by simp)
    dsimp only [Form.decode]
    split_ifs
    · exact ⟨_, rfl⟩
    · exact ⟨_, Option.map_eq_some_iff.2 ⟨_, ho, rfl⟩⟩
  | evSeg =>
    dsimp only [Form.decode]
    split_ifs
    · exact ⟨_, rfl⟩
    · exact ⟨_, Option.map_eq_some_iff.2 ⟨_, hev, rfl⟩⟩
  | group => exact GroupEntry.decode_total _ m (by simpa using h)

end Sys2Proof
end

section
/-! PROOFS. The opcode map against the encoder (spec/30_encoding.md R88 to R106): under every first byte the encoder
writes what the entry makes, and every instruction is made under the first byte it is written with; obligations O58 and
O59. -/
namespace Sys2Proof

/-! ### The groups -/

/-- A group with the REG values 1 to 7 marked "(not used)" (R104). -/
theorem Form.agrees_of_first {b : Byte} {g0 : GroupEntry} {f : Byte → Instr} (h0 : g0.Agrees b 0)
    (h : ∀ modrm, (f modrm).Spelled (regIn modrm [1, 2, 3, 4, 5, 6, 7]) [b, modrm]) :
    (Form.group g0 (.reserved f) (.reserved f) (.reserved f) (.reserved f) (.reserved f) (.reserved f)
      (.reserved f)).Agrees b := by
  refine forall_code ?first ?_ ?_ ?_ ?_ ?_ ?_ ?_
  case first => exact h0
  all_goals exact ⟨_, by decide, h⟩

theorem group80_agrees : (opcodeRow8 0).Agrees 0x80 := by
  refine forall_code ?_ ?_ ?_ ?_ ?_ ?_ ?_ ?_
  all_goals exact fun _ _ => ⟨rfl, rfl⟩

theorem group81_agrees : (opcodeRow8 1).Agrees 0x81 := by
  refine forall_code ?_ ?_ ?_ ?_ ?_ ?_ ?_ ?_
  all_goals exact fun _ _ => ⟨rfl, rfl⟩

theorem group82_agrees : (opcodeRow8 2).Agrees 0x82 := by
  refine forall_code ?add ?n1 ?adc ?sbb ?n4 ?sub ?n6 ?cmp
  case n1 | n4 | n6 => exact ⟨[1, 4, 6], by decide, fun _ => ⟨rfl, rfl⟩⟩
  all_goals exact fun _ _ => ⟨rfl, rfl⟩

theorem group83_agrees : (opcodeRow8 3).Agrees 0x83 := by
  refine forall_code ?add ?n1 ?adc ?sbb ?n4 ?sub ?n6 ?cmp
  case n1 | n4 | n6 => exact ⟨[1, 4, 6], by decide, fun _ => ⟨rfl, rfl⟩⟩
  all_goals exact fun _ _ => ⟨rfl, rfl⟩

theorem group8E_agrees : (opcodeRow8 14).Agrees 0x8E := by
  refine forall_code ?es ?cs ?ss ?ds ?_ ?_ ?_ ?_
  case cs => exact ⟨[1], by decide, fun _ => ⟨rfl, rfl⟩⟩
  case es | ss | ds => exact fun _ => ⟨rfl, rfl⟩
  all_goals exact ⟨[4, 5, 6, 7], by decide, fun _ => ⟨rfl, rfl⟩⟩

/-- The shifts and rotates, D0H to D3H. -/
theorem groupsD0_agrees (low : Nat) (h : low < 4) : (opcodeRowD low).Agrees (BitVec.ofNat 8 (0xD0 + low)) := by
  interval_cases low
  all_goals
    refine forall_code ?_ ?_ ?_ ?_ ?_ ?_ ?n6 ?_
    case n6 => exact ⟨[6], by decide, fun _ => ⟨rfl, rfl⟩⟩
    all_goals exact fun _ => ⟨rfl, rfl⟩

theorem groupF6_agrees : (opcodeRowF 6).Agrees 0xF6 := by
  refine forall_code ?test ?n1 ?_ ?_ ?_ ?_ ?_ ?_
  case test => exact fun _ _ => ⟨rfl, rfl⟩
  case n1 => exact ⟨[1], by decide, fun _ => ⟨rfl, rfl⟩⟩
  all_goals exact fun _ => ⟨rfl, rfl⟩

theorem groupF7_agrees : (opcodeRowF 7).Agrees 0xF7 := by
  refine forall_code ?test ?n1 ?_ ?_ ?_ ?_ ?_ ?_
  case test => exact fun _ _ => ⟨rfl, rfl⟩
  case n1 => exact ⟨[1], by decide, fun _ => ⟨rfl, rfl⟩⟩
  all_goals exact fun _ => ⟨rfl, rfl⟩

theorem groupFE_agrees : (opcodeRowF 14).Agrees 0xFE := by
  refine forall_code ?inc ?dec ?_ ?_ ?_ ?_ ?_ ?_
  case inc | dec => exact fun _ => ⟨rfl, rfl⟩
  all_goals exact ⟨[2, 3, 4, 5, 6, 7], by decide, fun _ => ⟨rfl, rfl⟩⟩

theorem groupFF_agrees : (opcodeRowF 15).Agrees 0xFF := by
  refine forall_code ?_ ?_ ?_ ?callMem ?_ ?jmpMem ?_ ?n7
  case callMem | jmpMem => exact ⟨fun _ => ⟨rfl, rfl⟩, fun _ => ⟨rfl, rfl⟩⟩
  case n7 => exact ⟨[7], by decide, fun _ => ⟨rfl, rfl⟩⟩
  all_goals exact fun _ => ⟨rfl, rfl⟩

/-! ### The rows -/

/-- The sixteen entries of a row of the opcode map agree with the encoder. -/
def RowAgrees (row : Nat → Form) (high : Nat) : Prop :=
  ∀ low < 16, (row low).Agrees (BitVec.ofNat 8 (16 * high + low))

/-- Every nibble is one of sixteen. -/
theorem forall_nibble {P : Nat → Prop} (h0 : P 0) (h1 : P 1) (h2 : P 2) (h3 : P 3) (h4 : P 4) (h5 : P 5) (h6 : P 6)
    (h7 : P 7) (h8 : P 8) (h9 : P 9) (hA : P 10) (hB : P 11) (hC : P 12) (hD : P 13) (hE : P 14) (hF : P 15) :
    ∀ low < 16, P low := by
  intro low hlow
  interval_cases low <;> assumption

theorem opcodeRow0_agrees : RowAgrees opcodeRow0 0 := by
  refine forall_nibble ?_ ?_ ?_ ?_ ?n4 ?n5 ?n6 ?n7 ?_ ?_ ?_ ?_ ?nC ?nD ?nE ?nF
  case n6 | n7 | nE | nF => exact ⟨rfl, rfl⟩
  case n4 | n5 | nC | nD => exact fun _ => ⟨rfl, rfl⟩
  all_goals exact fun _ _ => ⟨rfl, rfl⟩

theorem opcodeRow1_agrees : RowAgrees opcodeRow1 1 := by
  refine forall_nibble ?_ ?_ ?_ ?_ ?n4 ?n5 ?n6 ?n7 ?_ ?_ ?_ ?_ ?nC ?nD ?nE ?nF
  case n6 | n7 | nE | nF => exact ⟨rfl, rfl⟩
  case n4 | n5 | nC | nD => exact fun _ => ⟨rfl, rfl⟩
  all_goals exact fun _ _ => ⟨rfl, rfl⟩

theorem opcodeRow2_agrees : RowAgrees opcodeRow2 2 := by
  refine forall_nibble ?_ ?_ ?_ ?_ ?n4 ?n5 ?n6 ?n7 ?_ ?_ ?_ ?_ ?nC ?nD ?nE ?nF
  case n6 | n7 | nE | nF => exact ⟨rfl, rfl⟩
  case n4 | n5 | nC | nD => exact fun _ => ⟨rfl, rfl⟩
  all_goals exact fun _ _ => ⟨rfl, rfl⟩

theorem opcodeRow3_agrees : RowAgrees opcodeRow3 3 := by
  refine forall_nibble ?_ ?_ ?_ ?_ ?n4 ?n5 ?n6 ?n7 ?_ ?_ ?_ ?_ ?nC ?nD ?nE ?nF
  case n6 | n7 | nE | nF => exact ⟨rfl, rfl⟩
  case n4 | n5 | nC | nD => exact fun _ => ⟨rfl, rfl⟩
  all_goals exact fun _ _ => ⟨rfl, rfl⟩

theorem opcodeRow4_agrees : RowAgrees opcodeRow4 4 := by
  intro low hlow
  interval_cases low
  all_goals exact ⟨rfl, rfl⟩

theorem opcodeRow5_agrees : RowAgrees opcodeRow5 5 := by
  intro low hlow
  interval_cases low
  all_goals exact ⟨rfl, rfl⟩

theorem opcodeRow6_agrees : RowAgrees opcodeRow6 6 := by
  intro low hlow
  interval_cases low
  all_goals exact ⟨rfl, rfl⟩

theorem opcodeRow7_agrees : RowAgrees opcodeRow7 7 := by
  intro low hlow
  interval_cases low
  all_goals exact fun _ => ⟨rfl, rfl⟩

theorem opcodeRow8_agrees : RowAgrees opcodeRow8 8 := by
  refine forall_nibble ?n0 ?n1 ?n2 ?n3 ?_ ?_ ?_ ?_ ?_ ?_ ?_ ?_ ?nC ?nD ?nE ?nF
  case n0 => exact group80_agrees
  case n1 => exact group81_agrees
  case n2 => exact group82_agrees
  case n3 => exact group83_agrees
  case nC => exact ⟨fun _ _ => ⟨rfl, rfl⟩, fun _ => ⟨rfl, rfl⟩⟩
  case nD => exact ⟨fun _ _ => ⟨rfl, rfl⟩, fun _ _ => ⟨rfl, rfl⟩⟩
  case nE => exact group8E_agrees
  case nF => exact Form.agrees_of_first (fun _ => ⟨rfl, rfl⟩) fun _ => ⟨rfl, rfl⟩
  all_goals exact fun _ _ => ⟨rfl, rfl⟩

theorem opcodeRow9_agrees : RowAgrees opcodeRow9 9 := by
  refine forall_nibble ?_ ?_ ?_ ?_ ?_ ?_ ?_ ?_ ?_ ?_ ?nA ?_ ?_ ?_ ?_ ?_
  case nA => exact fun _ _ => ⟨rfl, rfl⟩
  all_goals exact ⟨rfl, rfl⟩

theorem opcodeRowA_agrees : RowAgrees opcodeRowA 10 := by
  refine forall_nibble ?n0 ?n1 ?n2 ?n3 ?_ ?_ ?_ ?_ ?n8 ?n9 ?_ ?_ ?_ ?_ ?_ ?_
  case n0 | n1 | n2 | n3 | n8 | n9 => exact fun _ => ⟨rfl, rfl⟩
  all_goals exact ⟨rfl, rfl⟩

theorem opcodeRowB_agrees : RowAgrees opcodeRowB 11 := by
  intro low hlow
  interval_cases low
  all_goals exact fun _ => ⟨rfl, rfl⟩

theorem opcodeRowC_agrees : RowAgrees opcodeRowC 12 := by
  refine forall_nibble ?_ ?_ ?n2 ?_ ?n4 ?n5 ?n6 ?n7 ?_ ?_ ?nA ?_ ?_ ?nD ?_ ?_
  case n2 | nA | nD => exact fun _ => ⟨rfl, rfl⟩
  case n4 | n5 => exact ⟨fun _ _ => ⟨rfl, rfl⟩, fun _ _ => ⟨rfl, rfl⟩⟩
  case n6 | n7 => exact Form.agrees_of_first (fun _ _ => ⟨rfl, rfl⟩) fun _ => ⟨rfl, rfl⟩
  all_goals exact ⟨rfl, rfl⟩

theorem opcodeRowD_agrees : RowAgrees opcodeRowD 13 := by
  refine forall_nibble ?n0 ?n1 ?n2 ?n3 ?n4 ?n5 ?n6 ?n7 ?_ ?_ ?_ ?_ ?_ ?_ ?_ ?_
  case n0 => exact groupsD0_agrees 0 (by decide)
  case n1 => exact groupsD0_agrees 1 (by decide)
  case n2 => exact groupsD0_agrees 2 (by decide)
  case n3 => exact groupsD0_agrees 3 (by decide)
  case n4 | n5 => exact ⟨⟨rfl, rfl⟩, fun _ => ⟨rfl, rfl⟩⟩
  case n6 | n7 => exact ⟨rfl, rfl⟩
  all_goals exact fun _ _ => ⟨rfl, rfl⟩

theorem opcodeRowE_agrees : RowAgrees opcodeRowE 14 := by
  refine forall_nibble ?_ ?_ ?_ ?_ ?_ ?_ ?_ ?_ ?_ ?_ ?nA ?_ ?nC ?nD ?nE ?nF
  case nC | nD | nE | nF => exact ⟨rfl, rfl⟩
  case nA => exact fun _ _ => ⟨rfl, rfl⟩
  all_goals exact fun _ => ⟨rfl, rfl⟩

theorem opcodeRowF_agrees : RowAgrees opcodeRowF 15 := by
  refine forall_nibble ?_ ?_ ?_ ?_ ?_ ?_ ?n6 ?n7 ?_ ?_ ?_ ?_ ?_ ?_ ?nE ?nF
  case n6 => exact groupF6_agrees
  case n7 => exact groupF7_agrees
  case nE => exact groupFE_agrees
  case nF => exact groupFF_agrees
  all_goals exact ⟨rfl, rfl⟩

/-- The first byte from its nibbles. -/
theorem RowAgrees.agrees {row : Nat → Form} {high : Nat} (h : RowAgrees row high) {b : Byte}
    (hb : b.toNat / 16 = high) : (row (b.toNat % 16)).Agrees b := by
  have hsum : BitVec.ofNat 8 (16 * high + b.toNat % 16) = b := by
    rw [← hb, Nat.div_add_mod, BitVec.ofNat_toNat, BitVec.setWidth_eq]
  have hrow := h (b.toNat % 16) (Nat.mod_lt _ (by decide))
  rwa [hsum] at hrow

/-- Under every first byte the encoder writes what the entry makes. -/
theorem opcodeMap_agrees (b : Byte) : (opcodeMap b).Agrees b := by
  obtain ⟨high, hb⟩ : ∃ high, b.toNat / 16 = high := ⟨_, rfl⟩
  have hhigh : high < 16 := by omega
  simp only [opcodeMap, hb]
  interval_cases high
  · exact opcodeRow0_agrees.agrees hb
  · exact opcodeRow1_agrees.agrees hb
  · exact opcodeRow2_agrees.agrees hb
  · exact opcodeRow3_agrees.agrees hb
  · exact opcodeRow4_agrees.agrees hb
  · exact opcodeRow5_agrees.agrees hb
  · exact opcodeRow6_agrees.agrees hb
  · exact opcodeRow7_agrees.agrees hb
  · exact opcodeRow8_agrees.agrees hb
  · exact opcodeRow9_agrees.agrees hb
  · exact opcodeRowA_agrees.agrees hb
  · exact opcodeRowB_agrees.agrees hb
  · exact opcodeRowC_agrees.agrees hb
  · exact opcodeRowD_agrees.agrees hb
  · exact opcodeRowE_agrees.agrees hb
  · exact opcodeRowF_agrees.agrees hb

/-! ### Every instruction -/

/-- A reserved second byte selects its entry when each of its REG values does. -/
theorem Form.Makes.reserved {g0 g1 g2 g3 g4 g5 g6 g7 : GroupEntry} {f : Byte → Instr} {modrm : Byte}
    {regs : List (BitVec 3)} (h : regIn modrm regs = true)
    (hf : ∀ reg ∈ regs, pickEntry reg g0 g1 g2 g3 g4 g5 g6 g7 = .reserved f) :
    (Form.group g0 g1 g2 g3 g4 g5 g6 g7).Makes (f modrm) :=
  .group (regField modrm) (hf _ (List.contains_iff_mem.1 h) ▸ .reserved modrm rfl)

/-- A field is the number it holds, so that a finite field can be taken value by value. -/
theorem exists_ofNat {w : Nat} (x : BitVec w) : ∃ n < 2 ^ w, BitVec.ofNat w n = x :=
  ⟨x.toNat, x.isLt, by simp⟩

/-- Every well-formed instruction is made under the first byte it is written with. -/
theorem makes_of_wf (i : Instr) (hw : i.wf = true) : ∃ b tail, encode i = b :: tail ∧ (opcodeMap b).Makes i := by
  cases i with
  | pushEs | popEs | pushCs | notUsed0F | pushSs | popSs | pushDs | popDs | segEs | daa | segCs | das | segSs | aaa
  | segDs | aas | nop | xchgAxCx | xchgAxDx | xchgAxBx | xchgAxSp | xchgAxBp | xchgAxSi | xchgAxDi | cbw | cwd | wait
  | pushf | popf | sahf | lahf | movsb | movsw | cmpsb | cmpsw | stosb | stosw | lodsb | lodsw | scasb | scasw | ret
  | retf | int3 | into | iret | notUsedD6 | xlat | inAlDx | inAxDx | outDxAl | outDxAx | lock | notUsedF1 | repne | rep
  | hlt | cmc | clc | stc | cli | sti | cld | std => exact ⟨_, _, rfl, .bare⟩
  | addAlIb | orAlIb | adcAlIb | sbbAlIb | andAlIb | subAlIb | xorAlIb | cmpAlIb | jo | jno | jb | jnb | je | jne
  | jbe | jnbe | js | jns | jp | jnp | jl | jnl | jle | jnle | testAlIb | intIb | loopne | loope | loop | jcxz | inAlIb
  | inAxIb | outIbAl | outIbAx | jmpShort => exact ⟨_, _, rfl, .imm8 _⟩
  | addAxIv | orAxIv | adcAxIv | sbbAxIv | andAxIv | subAxIv | xorAxIv | cmpAxIv | movAlMem | movAxMem | movMemAl
  | movMemAx | testAxIv | retPop | retfPop | callNear | jmpNear => exact ⟨_, _, rfl, .imm16 _⟩
  | callFar | jmpFar => exact ⟨_, _, rfl, .far _ _⟩
  | addEbGb | orEbGb | adcEbGb | sbbEbGb | andEbGb | subEbGb | xorEbGb | cmpEbGb | testEbGb | movEbGb =>
    exact ⟨_, _, rfl, .ebGb _ _⟩
  | addEvGv | orEvGv | adcEvGv | sbbEvGv | andEvGv | subEvGv | xorEvGv | cmpEvGv | testEvGv | movEvGv =>
    exact ⟨_, _, rfl, .evGv _ _⟩
  | addGbEb | orGbEb | adcGbEb | sbbGbEb | andGbEb | subGbEb | xorGbEb | cmpGbEb | xchgGbEb | movGbEb =>
    exact ⟨_, _, rfl, .gbEb _ _⟩
  | addGvEv | orGvEv | adcGvEv | sbbGvEv | andGvEv | subGvEv | xorGvEv | cmpGvEv | xchgGvEv | movGvEv =>
    exact ⟨_, _, rfl, .gvEv _ _⟩
  | lea | les | lds => exact ⟨_, _, rfl, .gvMem _ _⟩
  | refusedLea | refusedLes | refusedLds => exact ⟨_, _, rfl, .gvNoMem _ _⟩
  | movEvSeg => exact ⟨_, _, rfl, .evSeg _ _⟩
  | notUsed8C => exact ⟨_, _, rfl, .evNoSeg _⟩
  | aam | aad => exact ⟨_, _, rfl, .constant0A⟩
  | refusedAam | refusedAad => exact ⟨_, _, rfl, .not0A _⟩
  | rolEb1 | rolEbCl | incEb => exact ⟨_, _, rfl, .group 0 (.eb _)⟩
  | rorEb1 | rorEbCl | decEb => exact ⟨_, _, rfl, .group 1 (.eb _)⟩
  | rclEb1 | rclEbCl | notEb => exact ⟨_, _, rfl, .group 2 (.eb _)⟩
  | rcrEb1 | rcrEbCl | negEb => exact ⟨_, _, rfl, .group 3 (.eb _)⟩
  | shlEb1 | shlEbCl | mulEb => exact ⟨_, _, rfl, .group 4 (.eb _)⟩
  | shrEb1 | shrEbCl | imulEb => exact ⟨_, _, rfl, .group 5 (.eb _)⟩
  | divEb => exact ⟨_, _, rfl, .group 6 (.eb _)⟩
  | sarEb1 | sarEbCl | idivEb => exact ⟨_, _, rfl, .group 7 (.eb _)⟩
  | movEsEv | popEv | rolEv1 | rolEvCl | incEv => exact ⟨_, _, rfl, .group 0 (.ev _)⟩
  | rorEv1 | rorEvCl | decEv => exact ⟨_, _, rfl, .group 1 (.ev _)⟩
  | movSsEv | rclEv1 | rclEvCl | notEv | callEv => exact ⟨_, _, rfl, .group 2 (.ev _)⟩
  | movDsEv | rcrEv1 | rcrEvCl | negEv => exact ⟨_, _, rfl, .group 3 (.ev _)⟩
  | shlEv1 | shlEvCl | mulEv | jmpEv => exact ⟨_, _, rfl, .group 4 (.ev _)⟩
  | shrEv1 | shrEvCl | imulEv => exact ⟨_, _, rfl, .group 5 (.ev _)⟩
  | divEv | pushEv => exact ⟨_, _, rfl, .group 6 (.ev _)⟩
  | sarEv1 | sarEvCl | idivEv => exact ⟨_, _, rfl, .group 7 (.ev _)⟩
  | addEbIb | addEbIb82 | movEbIb | testEbIb => exact ⟨_, _, rfl, .group 0 (.ebIb _ _)⟩
  | orEbIb => exact ⟨_, _, rfl, .group 1 (.ebIb _ _)⟩
  | adcEbIb | adcEbIb82 => exact ⟨_, _, rfl, .group 2 (.ebIb _ _)⟩
  | sbbEbIb | sbbEbIb82 => exact ⟨_, _, rfl, .group 3 (.ebIb _ _)⟩
  | andEbIb => exact ⟨_, _, rfl, .group 4 (.ebIb _ _)⟩
  | subEbIb | subEbIb82 => exact ⟨_, _, rfl, .group 5 (.ebIb _ _)⟩
  | xorEbIb => exact ⟨_, _, rfl, .group 6 (.ebIb _ _)⟩
  | cmpEbIb | cmpEbIb82 => exact ⟨_, _, rfl, .group 7 (.ebIb _ _)⟩
  | addEvIs => exact ⟨_, _, rfl, .group 0 (.evIb _ _)⟩
  | adcEvIs => exact ⟨_, _, rfl, .group 2 (.evIb _ _)⟩
  | sbbEvIs => exact ⟨_, _, rfl, .group 3 (.evIb _ _)⟩
  | subEvIs => exact ⟨_, _, rfl, .group 5 (.evIb _ _)⟩
  | cmpEvIs => exact ⟨_, _, rfl, .group 7 (.evIb _ _)⟩
  | addEvIv | movEvIv | testEvIv => exact ⟨_, _, rfl, .group 0 (.evIv _ _)⟩
  | orEvIv => exact ⟨_, _, rfl, .group 1 (.evIv _ _)⟩
  | adcEvIv => exact ⟨_, _, rfl, .group 2 (.evIv _ _)⟩
  | sbbEvIv => exact ⟨_, _, rfl, .group 3 (.evIv _ _)⟩
  | andEvIv => exact ⟨_, _, rfl, .group 4 (.evIv _ _)⟩
  | subEvIv => exact ⟨_, _, rfl, .group 5 (.evIv _ _)⟩
  | xorEvIv => exact ⟨_, _, rfl, .group 6 (.evIv _ _)⟩
  | cmpEvIv => exact ⟨_, _, rfl, .group 7 (.evIv _ _)⟩
  | callMem32 => exact ⟨_, _, rfl, .group 3 (.mem _)⟩
  | jmpMem32 => exact ⟨_, _, rfl, .group 5 (.mem _)⟩
  | refusedCallMem32 => exact ⟨_, _, rfl, .group 3 (.noMem _)⟩
  | refusedJmpMem32 => exact ⟨_, _, rfl, .group 5 (.noMem _)⟩
  | notUsed82 | notUsed83 | refusedMovCs | notUsed8E | notUsed8F | notUsedC6 | notUsedC7 | notUsedD0 | notUsedD1
  | notUsedD2 | notUsedD3 | notUsedF6 | notUsedF7 | notUsedFE | notUsedFF =>
    exact ⟨_, _, rfl, .reserved hw (by simp [pickEntry])⟩
  | incR16 r | decR16 r | pushR16 r | popR16 r => cases r <;> exact ⟨_, _, rfl, .bare⟩
  | movR8Ib r => cases r <;> exact ⟨_, _, rfl, .imm8 _⟩
  | movR16Iv r => cases r <;> exact ⟨_, _, rfl, .imm16 _⟩
  | notUsed60 low | notUsedC0 low | notUsedC8 low =>
    obtain ⟨n, hn, rfl⟩ := exists_ofNat low
    interval_cases n <;> exact ⟨_, _, rfl, .bare⟩
  | esc x =>
    obtain ⟨n, hn, rfl⟩ := exists_ofNat x
    interval_cases n <;> exact ⟨_, _, rfl, .esc _ _⟩

/-! ### Decoding and encoding -/

/-- The decoder reads an instruction exactly where it stands, well formed, in its encoding. -/
theorem decode_eq_instr_iff {bytes rest : List Byte} {i : Instr} :
    decode bytes = .instr i rest ↔ i.wf = true ∧ encode i ++ rest = bytes := by
  cases bytes with
  | nil =>
    refine iff_of_false nofun ?_
    rintro ⟨hw, h⟩
    obtain ⟨b, tail, henc, -⟩ := makes_of_wf i hw
    simp [henc] at h
  | cons b bs =>
    calc decode (b :: bs) = .instr i rest
      _ ↔ (opcodeMap b).decode bs = some (i, rest) := by
        dsimp only [decode]
        split <;> simp_all
      _ ↔ i.wf = true ∧ encode i ++ rest = b :: bs := by
        refine ⟨Form.stands_of_decode (opcodeMap_agrees b), fun hs => ?_⟩
        obtain ⟨b', tail, henc, hmakes⟩ := makes_of_wf i hs.1
        obtain ⟨rfl, -⟩ := List.cons.inj ((congrArg (· ++ rest) henc).symm.trans hs.2)
        exact Form.decode_of_stands (opcodeMap_agrees b') hmakes hs

theorem encode_length_of_wf {i : Instr} (hw : i.wf = true) : 1 ≤ (encode i).length ∧ (encode i).length ≤ 6 := by
  obtain ⟨b, _, -, hmakes⟩ := makes_of_wf i hw
  exact (opcodeMap_agrees b).length hmakes

/-- Six bytes are always enough (R70). -/
theorem decode_total {bytes : List Byte} (h : 6 ≤ bytes.length) : ∃ i rest, decode bytes = .instr i rest := by
  cases bytes with
  | nil => contradiction
  | cons b bs =>
    obtain ⟨⟨i, rest⟩, hd⟩ := (opcodeMap b).decode_total (Nat.le_of_succ_le_succ h)
    exact ⟨i, rest, by simp only [decode, hd]⟩

end Sys2Proof

namespace Sys2Proof.Proofs
open Sys2Proof Sys2Proof.Machine

/-! ### The obligations -/

/-- Settles O58: the encoding stands at the head of itself and what follows. -/
theorem decodeReadsBackTheEncoding : Obligations.DecodeReadsBackTheEncoding :=
  fun _ _ hw => decode_eq_instr_iff.2 ⟨hw, rfl⟩

/-- Settles O59: what is decoded stands there and is well formed, so that it is one to six bytes long; six bytes are
enough for every entry of the opcode map. -/
theorem decodedInstructionsEncodeBack : Obligations.DecodedInstructionsEncodeBack := by
  refine fun bytes => ⟨fun i rest hd => ?_, decode_total⟩
  obtain ⟨hw, henc⟩ := decode_eq_instr_iff.1 hd
  exact ⟨hw, henc, encode_length_of_wf hw⟩

end Sys2Proof.Proofs
end

section
/-! PROOFS. Where memory operands are (spec/30_encoding.md R83, R84): base and index, displacement and segment; and which
encodings are refused (R102 to R106); obligations O18 and O45. -/
namespace Sys2Proof.Proofs
open Sys2Proof Sys2Proof.Machine

/-! ### The effective address -/

/-- A sign-extended byte keeps its value modulo 65536 (R77). -/
theorem signExtend_toNat (b : Byte) : ((b.signExtend 16).toNat : Int) = b.toInt % 65536 := by
  have h := BitVec.toInt_signExtend_of_le (x := b) (v := 16) (by decide)
  rw [← h, BitVec.toInt_eq_toNat_bmod]
  exact (Int.emod_eq_of_lt (by omega) (by omega)).symm.trans Int.bmod_emod.symm

/-- The sum wraps modulo 65536 whatever base, index and displacement are. -/
theorem ea_indexed_toNat {s : State} {b : EaBase} {d : Disp} {n : Nat} {δ : Int}
    (hb : (s.baseIndex b).toNat = n % 65536) (hd : ((dispValue d).toNat : Int) = δ % 65536) :
    ((s.ea (.indexed b d)).toNat : Int) = (n + δ) % 65536 := by
  have hsum : (s.ea (.indexed b d)).toNat = ((s.baseIndex b).toNat + (dispValue d).toNat) % 65536 :=
    BitVec.toNat_add ..
  omega

/-- Settles O18: the parts of the sum, and the segment, by the form of the operand. -/
theorem memoryOperandsAreAddressed : Obligations.MemoryOperandsAreAddressed := by
  refine fun s => ⟨fun off => ⟨rfl, rfl⟩, fun b w d hd q hq => ?_⟩
  have hdisp : ((dispValue d.1).toNat : Int) = d.2 % 65536 := by
    simp only [List.mem_cons, List.not_mem_nil, or_false] at hd
    obtain rfl | rfl | rfl := hd
    · rfl
    · exact signExtend_toNat b
    · exact (Int.emod_eq_of_lt (by omega) (by omega)).symm
  have ⟨hbase, hseg⟩ : (s.baseIndex q.1).toNat = q.2.1 % 65536 ∧ defaultSeg (.indexed q.1 d.1) = q.2.2 := by
    simp only [List.mem_cons, List.not_mem_nil, or_false] at hq
    obtain rfl | rfl | rfl | rfl | rfl | rfl | rfl | rfl := hq
    · exact ⟨BitVec.toNat_add s.bx s.si, rfl⟩
    · exact ⟨BitVec.toNat_add s.bx s.di, rfl⟩
    · exact ⟨BitVec.toNat_add s.bp s.si, rfl⟩
    · exact ⟨BitVec.toNat_add s.bp s.di, rfl⟩
    · exact ⟨(Nat.mod_eq_of_lt s.si.isLt).symm, rfl⟩
    · exact ⟨(Nat.mod_eq_of_lt s.di.isLt).symm, rfl⟩
    · exact ⟨(Nat.mod_eq_of_lt s.bp.isLt).symm, rfl⟩
    · exact ⟨(Nat.mod_eq_of_lt s.bx.isLt).symm, rfl⟩
  exact ⟨ea_indexed_toNat hbase hdisp, congrArg s.segOr hseg⟩

/-! ### Refusals -/

/-- Settles O45, instruction by instruction: the name of the refusal stands in the arm of a reserved encoding, and
every other arm is a next state. -/
theorem reservedEncodingsAreRefusedAndOthersComplete :
    Obligations.ReservedEncodingsAreRefusedAndOthersComplete := by
  intro i s
  cases i with
  | notUsed0F | notUsed60 | notUsed82 | notUsed83 | notUsed8C | notUsed8E | notUsed8F | notUsedC0 | notUsedC6
  | notUsedC7 | notUsedC8 | notUsedD0 | notUsedD1 | notUsedD2 | notUsedD3 | notUsedD6 | notUsedF1 | notUsedF6
  | notUsedF7 | notUsedFE | notUsedFF => rfl
  | refusedAam | refusedAad => rfl
  | refusedMovCs => rfl
  | refusedLea | refusedLes | refusedLds | refusedCallMem32 | refusedJmpMem32 => rfl
  | _ => exact ⟨_, rfl⟩

end Sys2Proof.Proofs
end

section
/-! PROOFS. Data transfer (spec/40_data_transfer.md R111 to R130): MOV, POP and POPF, XCHG, LEA, XLAT, LDS and LES, IN
and OUT; obligations O19, O22, O23, O24, O26 and O27. -/
namespace Sys2Proof.Proofs
open Sys2Proof Sys2Proof.Machine

/-! ### What is kept -/

theorem systemKept_trans {s t u : State} (h : State.systemKept s t) (k : State.systemKept t u) :
    State.systemKept s u := by
  obtain ⟨h1, h2, h3, h4, h5, h6, h7, h8, h9, h10⟩ := h
  obtain ⟨k1, k2, k3, k4, k5, k6, k7, k8, k9, k10⟩ := k
  exact ⟨k1.trans h1, k2.trans h2, k3.trans h3, k4.trans h4, k5.trans h5, k6.trans h6, k7.trans h7, k8.trans h8,
    k9.trans h9, k10.trans h10⟩

theorem othersKept_trans {s t u : State} (h : State.othersKept s t) (k : State.othersKept t u) :
    State.othersKept s u := by
  obtain ⟨hsystem, hrun, hinhibit, hio⟩ := h
  obtain ⟨ksystem, krun, kinhibit, kio⟩ := k
  exact ⟨systemKept_trans hsystem ksystem, krun.trans hrun, kinhibit.trans hinhibit, kio.trans hio⟩

theorem halvesKept_trans {s t u : State} {l : List Reg8} (h : State.halvesKept s t l) (k : State.halvesKept t u l) :
    State.halvesKept s u l := by
  obtain ⟨hhalves, hsp, hbp, hsi, hdi⟩ := h
  obtain ⟨khalves, ksp, kbp, ksi, kdi⟩ := k
  exact ⟨fun r hr => (khalves r hr).trans (hhalves r hr), ksp.trans hsp, kbp.trans hbp, ksi.trans hsi, kdi.trans hdi⟩

theorem halvesKept_mono {s t : State} {l l' : List Reg8} (h : State.halvesKept s t l) (hl : ∀ r ∈ l, r ∈ l') :
    State.halvesKept s t l' := ⟨fun r hr => h.1 r fun h' => hr (hl r h'), h.2⟩

/-- Nothing is changed but general registers and the bytes of `stored`, as far as these are RAM: the part of the
statements about POP and XCHG that is the same for every form. -/
def OnlyStores (s t : State) (stored : Nat → Prop) : Prop :=
  State.segsKept s t [] ∧ State.memKept s t stored ∧ t.flags = s.flags ∧ State.othersKept s t ∧ State.goesOn s t

theorem OnlyStores.trans {s t u : State} {stored : Nat → Prop} (h : OnlyStores s t stored)
    (k : OnlyStores t u stored) : OnlyStores s u stored := by
  obtain ⟨hsegs, hmem, hflags, hothers, hgoes⟩ := h
  obtain ⟨ksegs, kmem, kflags, kothers, kgoes⟩ := k
  have ⟨⟨_, _, _, _, _, _, _, _, _, hparams⟩, _⟩ := hothers
  exact ⟨State.segsKept_trans hsegs ksegs, State.memKept_trans hmem kmem hparams, kflags.trans hflags,
    othersKept_trans hothers kothers, State.goesOn_trans hgoes kgoes⟩

theorem onlyStores_writeEv (s : State) (e : Ev) (v : Word) : OnlyStores s (s.writeEv e v) (s.storesWord e) := by
  obtain ⟨-, hflags, -, hsegs, hmem, hrest⟩ := s.writeEv_spec e v
  exact ⟨hsegs, hmem, hflags, hrest⟩

theorem onlyStores_writeEb (s : State) (e : Eb) (v : Byte) : OnlyStores s (s.writeEb e v) (s.storesByte e) := by
  obtain ⟨-, hflags, -, hsegs, hmem, hrest⟩ := s.writeEb_spec e v
  exact ⟨hsegs, hmem, hflags, hrest⟩

/-- A write to a register operand stores to no byte, whatever `stored` is. -/
theorem onlyStores_setReg16 (s : State) (r : Reg16) (v : Word) (stored : Nat → Prop) :
    OnlyStores s (s.setReg16 r v) stored := by
  obtain ⟨hsegs, hmem, hrest⟩ := onlyStores_writeEv s (.reg r) v
  exact ⟨hsegs, State.memKept_mono hmem fun _ => False.elim, hrest⟩

theorem onlyStores_setReg8 (s : State) (r : Reg8) (v : Byte) (stored : Nat → Prop) :
    OnlyStores s (s.setReg8 r v) stored := by
  obtain ⟨hsegs, hmem, hrest⟩ := onlyStores_writeEb s (.reg r) v
  exact ⟨hsegs, State.memKept_mono hmem fun _ => False.elim, hrest⟩

theorem regsKept_setReg16 (s : State) (r : Reg16) (v : Word) : State.regsKept s (s.setReg16 r v) [r] := by
  obtain ⟨-, -, hregs, -⟩ := s.writeEv_spec (.reg r) v
  exact hregs

theorem halvesKept_setReg8 (s : State) (r : Reg8) (v : Byte) : State.halvesKept s (s.setReg8 r v) [r] := by
  obtain ⟨-, -, hhalves, -⟩ := s.writeEb_spec (.reg r) v
  exact hhalves

theorem reg8_setReg8_same (s : State) (r : Reg8) (v : Byte) : (s.setReg8 r v).reg8 r = v :=
  (s.writeEb_spec (.reg r) v).1 fun _ => False.elim

theorem read16_setReg16 (s : State) (r : Reg16) (v base off : Word) :
    (s.setReg16 r v).read16 base off = s.read16 base off := by
  simp only [State.read16, State.read8, State.setReg16_mem]

theorem read8_setReg8 (s : State) (r : Reg8) (v : Byte) (base off : Word) :
    (s.setReg8 r v).read8 base off = s.read8 base off := by simp only [State.read8, State.setReg8_mem]

/-! ### MOV -/

/-- An instruction that writes a 16-bit operand and does nothing else gives what it writes (R84). -/
theorem givesWord_of_writeEv {s : State} {i : Instr} {e : Ev} {v : Word} (hx : exec i s = .next (s.writeEv e v)) :
    s.givesWord i e v fun f => f = s.flags := ⟨_, hx, s.writeEv_spec e v⟩

/-- As `givesWord_of_writeEv`, for an 8-bit operand. -/
theorem givesByte_of_writeEb {s : State} {i : Instr} {e : Eb} {v : Byte} (hx : exec i s = .next (s.writeEb e v)) :
    s.givesByte i e v fun f => f = s.flags := ⟨_, hx, s.writeEb_spec e v⟩

/-- Settles O19: every such MOV is one write of its destination. -/
theorem movesCopyTheSource : Obligations.MovesCopyTheSource := by
  refine fun s => ⟨fun e r g w => ?words, fun e r b w => ?bytes⟩ <;> simp only [List.forall_mem_cons]
  case words =>
    exact ⟨givesWord_of_writeEv rfl, givesWord_of_writeEv rfl, givesWord_of_writeEv rfl, givesWord_of_writeEv rfl,
      givesWord_of_writeEv rfl, givesWord_of_writeEv rfl, givesWord_of_writeEv rfl, List.forall_mem_nil _⟩
  case bytes =>
    exact ⟨givesByte_of_writeEb rfl, givesByte_of_writeEb rfl, givesByte_of_writeEb rfl, givesByte_of_writeEb rfl,
      givesByte_of_writeEb rfl, givesByte_of_writeEb rfl, List.forall_mem_nil _⟩

/-! ### POP -/

/-- No effective address depends on SP (R83), so raising it moves no operand. -/
theorem storesWord_drop16 (s : State) (e : Ev) : s.drop16.storesWord e = s.storesWord e := by
  cases e with
  | reg r => rfl
  | mem m => cases m with
    | direct off => rfl
    | indexed b d => cases b <;> rfl

/-- `t` is `s` after the word at the top of the stack was popped into the operand `e`. -/
def Popped (s t : State) (e : Ev) : Prop :=
  (s.lands (s.storesWord e) → t.readEv e = s.read16 s.ss s.sp) ∧ (e ≠ .reg .sp → t.sp = s.sp + 2) ∧
    State.regsKept s t (.sp :: evRegs e) ∧ OnlyStores s t (s.storesWord e)

/-- The operand is written once SP is raised, so it holds the word also if it is SP (R118, D9). -/
theorem popped_writeEv (s : State) (e : Ev) : Popped s (s.drop16.writeEv e s.top16) e := by
  have hwrite := s.drop16.writeEv_spec e s.top16
  have hstores := onlyStores_writeEv s.drop16 e s.top16
  rw [storesWord_drop16] at hwrite hstores
  obtain ⟨hread, -, hregs, -⟩ := hwrite
  have hdrop : State.regsKept s s.drop16 [.sp] := regsKept_setReg16 s .sp (s.sp + 2)
  refine ⟨hread, fun he => hregs .sp ?_, ?_, (onlyStores_setReg16 s .sp (s.sp + 2) _).trans hstores⟩
  · cases e with
    | reg r => exact fun hr => he (congrArg Ev.reg (List.mem_singleton.1 hr).symm)
    | mem m => exact List.not_mem_nil
  · exact State.regsKept_trans (State.regsKept_mono hdrop (by simp))
      (State.regsKept_mono hregs fun _ => List.mem_cons_of_mem _)

/-- Settles O22: POP writes its operand after SP is raised, POPF the flags. -/
theorem popTakesTheTop : Obligations.PopTakesTheTop := by
  refine fun s e r hs => ⟨?pop, ?popf⟩
  case pop =>
    have hgap : s.drop16.gapEv e = s.drop16 :=
      State.gapEv_of_undisturbed (State.undisturbed_of_eq (t := s.drop16) hs rfl rfl) e
    simp only [List.forall_mem_cons]
    exact ⟨⟨_, rfl, popped_writeEv s (.reg r)⟩,
      ⟨_, congrArg (fun u : State => Host.Outcome.next (u.writeEv e s.top16)) hgap, popped_writeEv s e⟩,
      List.forall_mem_nil _⟩
  case popf =>
    exact ⟨_, rfl, ofWord_carriesFlags _, rfl, regsKept_setReg16 s .sp (s.sp + 2), fun r _ => by cases r <;> rfl, rfl,
      ⟨State.othersKept_refl s, rfl⟩, State.goesOn_refl s⟩

/-! ### XCHG -/

/-- `t` is `s` after `r` and the 16-bit operand `e` have changed places; a memory operand stays where it was in `s`,
also if `r` took part in its address. -/
def ExchangedWords (s t : State) (r : Reg16) (e : Ev) : Prop :=
  t.reg16 r = s.readEv e ∧
    (match e with
      | .reg q => t.reg16 q = s.reg16 r
      | .mem m => s.lands (s.storesWord e) → t.read16 (s.segOf m) (s.ea m) = s.reg16 r) ∧
    State.regsKept s t (r :: evRegs e) ∧ OnlyStores s t (s.storesWord e)

/-- As `ExchangedWords`, for bytes. -/
def ExchangedBytes (s t : State) (r : Reg8) (e : Eb) : Prop :=
  t.reg8 r = s.readEb e ∧
    (match e with
      | .reg q => t.reg8 q = s.reg8 r
      | .mem m => s.lands (s.storesByte e) → t.read8 (s.segOf m) (s.ea m) = s.reg8 r) ∧
    State.halvesKept s t (r :: ebRegs e) ∧ OnlyStores s t (s.storesByte e)

/-- The operand is written first and the register after it, which agrees with an exchange also where the operand is that
register (R119). -/
theorem exchangedWords_exchange16 {s : State} (h : s.undisturbed) (r : Reg16) (e : Ev) :
    ExchangedWords s (s.exchange16 r e) r e := by
  have hx : s.exchange16 r e = (s.writeEv e (s.reg16 r)).setReg16 r (s.readEv e) := by
    rw [State.exchange16, State.gapEv_of_undisturbed h]
  obtain ⟨-, -, hregs, -⟩ := s.writeEv_spec e (s.reg16 r)
  rw [hx]
  refine ⟨State.reg16_setReg16_same _ _ _, ?other, ?regs,
    (onlyStores_writeEv s e _).trans (onlyStores_setReg16 _ r _ _)⟩
  case other =>
    cases e with
    | reg q =>
      by_cases hq : q = r
      · rw [hq]
        exact State.reg16_setReg16_same _ _ _
      · exact (regsKept_setReg16 _ r _ q fun h => hq (List.mem_singleton.1 h)).trans (State.reg16_setReg16_same s q _)
    | mem m =>
      exact fun hl => (read16_setReg16 _ r _ _ _).trans (State.read16_write16_lands hl (s.reg16 r))
  case regs =>
    exact State.regsKept_trans (State.regsKept_mono hregs fun _ => List.mem_cons_of_mem _)
      (State.regsKept_mono (regsKept_setReg16 _ r _) (by simp))

/-- As `exchangedWords_exchange16`, for bytes. -/
theorem exchangedBytes_exchange8 {s : State} (h : s.undisturbed) (r : Reg8) (e : Eb) :
    ExchangedBytes s (s.exchange8 r e) r e := by
  have hx : s.exchange8 r e = (s.writeEb e (s.reg8 r)).setReg8 r (s.readEb e) := by
    rw [State.exchange8, State.gapEb_of_undisturbed h]
  obtain ⟨-, -, hhalves, -⟩ := s.writeEb_spec e (s.reg8 r)
  rw [hx]
  refine ⟨reg8_setReg8_same _ _ _, ?other, ?halves, (onlyStores_writeEb s e _).trans (onlyStores_setReg8 _ r _ _)⟩
  case other =>
    cases e with
    | reg q =>
      by_cases hq : q = r
      · rw [hq]
        exact reg8_setReg8_same _ _ _
      · exact ((halvesKept_setReg8 _ r _).1 q fun h => hq (List.mem_singleton.1 h)).trans (reg8_setReg8_same _ _ _)
    | mem m =>
      exact fun hl => (read8_setReg8 _ r _ _ _).trans ((s.read8_write8 _ _ _ _).trans (if_pos ⟨rfl, hl _ rfl⟩))
  case halves =>
    exact halvesKept_trans (halvesKept_mono hhalves fun _ => List.mem_cons_of_mem _)
      (halvesKept_mono (halvesKept_setReg8 _ r _) (by simp))

/-- `t` is `s` after AX and `r` have changed places. -/
def ExchangedAx (s t : State) (r : Reg16) : Prop :=
  t.ax = s.reg16 r ∧ t.reg16 r = s.ax ∧ State.regsKept s t [.ax, r] ∧ State.segsKept s t [] ∧ t.mem = s.mem ∧
    t.flags = s.flags ∧ State.restKept s t ∧ State.goesOn s t

/-- XCHG AX is the exchange of words with AX as the r/m operand, and touches no memory (R120). -/
theorem exchangedAx_exchangeAx {s : State} (h : s.undisturbed) (r : Reg16) : ExchangedAx s (s.exchangeAx r) r := by
  obtain ⟨hr, hax, hregs, hsegs, -, hflags, hothers, hgoes⟩ := exchangedWords_exchange16 h r (.reg .ax)
  exact ⟨hax, hr, State.regsKept_mono hregs fun _ => (List.Perm.swap .ax r []).mem_iff.1, hsegs,
    State.setReg16_mem _ r s.ax, hflags, ⟨hothers, State.setReg16_trace _ r s.ax⟩, hgoes⟩

/-- Settles O23: XCHG of words, of bytes, and of AX with each other register. -/
theorem exchangesSwap : Obligations.ExchangesSwap := by
  refine fun s hs => ⟨fun r e => ⟨_, rfl, exchangedWords_exchange16 hs r e⟩,
    fun r e => ⟨_, rfl, exchangedBytes_exchange8 hs r e⟩, ?ax⟩
  have exchange := exchangedAx_exchangeAx hs
  simp only [List.forall_mem_cons]
  exact ⟨⟨_, rfl, exchange .cx⟩, ⟨_, rfl, exchange .dx⟩, ⟨_, rfl, exchange .bx⟩, ⟨_, rfl, exchange .sp⟩,
    ⟨_, rfl, exchange .bp⟩, ⟨_, rfl, exchange .si⟩, ⟨_, rfl, exchange .di⟩, List.forall_mem_nil _⟩

/-! ### LEA, XLAT, LDS and LES -/

/-- `t` is `s` with the pointer in memory loaded into `r` and the segment register `q`. -/
def PointerLoaded (s t : State) (q : SReg) (r : Reg16) (m : MemOp) : Prop :=
  t.reg16 r = s.read16 (s.segOf m) (s.ea m) ∧ t.sreg q = s.read16 (s.segOf m) (s.ea m + 2) ∧
    State.regsKept s t [r] ∧ State.segsKept s t [q] ∧ t.mem = s.mem ∧ t.flags = s.flags ∧ State.restKept s t ∧
    State.goesOn s t

/-- With no other master on the bus both words are those that memory held at the beginning (R125, R126). -/
theorem pointerLoaded_loadPointer {s : State} (h : s.undisturbed) (q : SReg) (r : Reg16) (m : MemOp) :
    PointerLoaded s (s.loadPointer q r m) q r m := by
  rw [State.loadPointer, State.busGap_of_undisturbed h]
  refine ⟨by simp [State.pointerOff], by simp [State.sreg_setSreg, State.pointerBase], fun p hp => ?_, fun p hp => ?_,
    by simp, by simp, by simp [State.restKept, State.othersKept, State.systemKept], by simp [State.goesOn]⟩
  · rw [State.reg16_setSreg]
    exact regsKept_setReg16 s r _ p hp
  · rw [State.sreg_setSreg, if_neg fun h => hp (List.mem_singleton.2 h), State.sreg_setReg16]

/-- Settles O24: LEA and XLAT are one write of a register, LDS and LES write a general and a segment register. -/
theorem addressesAndPointersAreLoaded : Obligations.AddressesAndPointersAreLoaded := by
  refine fun s r m => ⟨givesWord_of_writeEv rfl, ?xlat, fun hs => ?pointers⟩
  case xlat =>
    have hindex : BitVec.ofNat 16 (s.bx.toNat + (s.reg8 .al).toNat) = s.bx + (s.reg8 .al).setWidth 16 := by
      rw [BitVec.ofNat_add, BitVec.ofNat_toNat, BitVec.ofNat_toNat, BitVec.setWidth_eq]
    exact hindex ▸ givesByte_of_writeEb rfl
  case pointers =>
    simp only [List.forall_mem_cons]
    exact ⟨⟨_, rfl, pointerLoaded_loadPointer hs .ds r m⟩, ⟨_, rfl, pointerLoaded_loadPointer hs .es r m⟩,
      List.forall_mem_nil _⟩

/-! ### IN -/

theorem wideTransfer_iff (s : State) (port : Word) :
    s.wideTransfer port = true ↔ s.params.variant = .i8086 ∧ port.toNat % 2 = 0 := by
  simp [State.wideTransfer, BitVec.getLsbD, Nat.testBit_zero]

theorem portAnswer_of_queued {s : State} {b : Byte} {rest : List Byte} (h : s.ioIn = b :: rest) (port : Word) :
    s.portAnswer port = b := by rw [State.portAnswer, h, List.headD_cons]

/-- An answer takes one byte from what the platform has queued, or draws a free value where it has queued none (R50). -/
theorem portAnswered_eq (s : State) : ∃ d, s.portAnswered = { s with ioIn := s.ioIn.drop 1, drawn := d } := by
  unfold State.portAnswered
  cases h : s.ioIn with
  | nil => exact ⟨s.drawn + 1, congrArg (fun queued => ({ s.drew with ioIn := queued } : State)) h⟩
  | cons b rest => exact ⟨s.drawn, rfl⟩

/-- A byte transfer is an answer that the host hears. -/
theorem ioByteRead_eq (s : State) (port : Word) : ∃ d, s.ioByteRead port = { s with
    ioIn := s.ioIn.drop 1, drawn := d, trace := .ioRead8 port (s.portAnswer port) :: s.trace } := by
  obtain ⟨d, h⟩ := portAnswered_eq s
  exact ⟨d, by rw [State.ioByteRead, h]; rfl⟩

/-- A word transfer takes two bytes, and the host hears it in one transfer or in two with the low port first (R50,
D16). -/
theorem ioWordRead_eq (s : State) (port : Word) : ∃ d, s.ioWordRead port = { s with
    ioIn := s.ioIn.drop 2
    drawn := d
    trace := (if s.params.variant = .i8086 ∧ port.toNat % 2 = 0 then [.ioRead16 port (s.ioWord port)]
      else [.ioRead8 (port + 1) (hiByte (s.ioWord port)), .ioRead8 port (loByte (s.ioWord port))]) ++ s.trace } := by
  by_cases hw : s.wideTransfer port
  · obtain ⟨d, h⟩ := portAnswered_eq s
    obtain ⟨d', h'⟩ := portAnswered_eq s.portAnswered
    refine ⟨d', ?_⟩
    rw [State.ioWordRead, if_pos hw, if_pos ((wideTransfer_iff s port).1 hw), h', h, List.drop_drop]
    rfl
  · obtain ⟨d, h⟩ := ioByteRead_eq s port
    obtain ⟨d', h'⟩ := ioByteRead_eq (s.ioByteRead port) (port + 1)
    have hhigh : (s.ioByteRead port).portAnswer (port + 1) = hiByte (s.ioWord port) := (hiByte_wordOf _ _).symm
    have hlow : s.portAnswer port = loByte (s.ioWord port) := (loByte_wordOf _ _).symm
    refine ⟨d', ?_⟩
    rw [State.ioWordRead, if_neg hw, if_neg fun h => hw ((wideTransfer_iff s port).2 h), h', hhigh, h, hlow,
      List.drop_drop]
    rfl

/-- Nothing is changed but general registers, the queued answers and the host's trace. -/
def OnlyReadsPort (s t : State) : Prop :=
  State.segsKept s t [] ∧ t.mem = s.mem ∧ t.flags = s.flags ∧ State.systemKept s t ∧ t.run = s.run ∧
    t.inhibitInt = s.inhibitInt ∧ State.goesOn s t

/-- `t` is `s` after the byte that the port answers has come into AL. -/
def ByteIn (s t : State) (port : Word) : Prop :=
  t.trace = .ioRead8 port (t.reg8 .al) :: s.trace ∧ t.ioIn = s.ioIn.drop 1 ∧
    (∀ b rest, s.ioIn = b :: rest → t.reg8 .al = b) ∧ State.halvesKept s t [.al] ∧ OnlyReadsPort s t

/-- `t` is `s` after the word that the port answers has come into AX. -/
def WordIn (s t : State) (port : Word) : Prop :=
  t.trace = (if s.params.variant = .i8086 ∧ port.toNat % 2 = 0 then [.ioRead16 port t.ax]
      else [.ioRead8 (port + 1) (t.reg8 .ah), .ioRead8 port (t.reg8 .al)]) ++ s.trace ∧
    t.ioIn = s.ioIn.drop 2 ∧ (∀ b rest, s.ioIn = b :: rest → t.reg8 .al = b) ∧
    (∀ b c rest, s.ioIn = b :: c :: rest → t.reg8 .ah = c) ∧ State.regsKept s t [.ax] ∧ OnlyReadsPort s t

theorem byteIn_inByte (s : State) (port : Word) : ByteIn s (s.inByte port) port := by
  obtain ⟨d, hread⟩ := ioByteRead_eq s port
  have hal : (s.inByte port).reg8 .al = s.portAnswer port := reg8_setReg8_same _ .al _
  rw [ByteIn, hal, State.inByte, hread]
  obtain ⟨hhalves, hrest⟩ := halvesKept_setReg8 { s with
    ioIn := s.ioIn.drop 1, drawn := d, trace := .ioRead8 port (s.portAnswer port) :: s.trace } .al (s.portAnswer port)
  exact ⟨rfl, rfl, fun b rest h => portAnswer_of_queued h port,
    ⟨fun r hr => (hhalves r hr).trans (by cases r <;> rfl), hrest⟩, fun r _ => by cases r <;> rfl, rfl, rfl,
    State.systemKept_refl s, rfl, rfl, State.goesOn_refl s⟩

theorem wordIn_inWord (s : State) (port : Word) : WordIn s (s.inWord port) port := by
  obtain ⟨d, hread⟩ := ioWordRead_eq s port
  obtain ⟨d', hanswered⟩ := portAnswered_eq s
  have hal : loByte (s.ioWord port) = s.portAnswer port := loByte_wordOf _ _
  have hah : hiByte (s.ioWord port) = s.portAnswered.portAnswer (port + 1) := hiByte_wordOf _ _
  rw [State.inWord, hread]
  refine ⟨rfl, rfl, fun b rest h => hal.trans (portAnswer_of_queued h port), fun b c rest h => hah.trans ?_,
    fun r hr => ?_, fun r _ => by cases r <;> rfl, rfl, rfl, State.systemKept_refl s, rfl, rfl, State.goesOn_refl s⟩
  · exact portAnswer_of_queued (rest := rest) (by rw [hanswered, h]; rfl) _
  · cases r with
    | ax => exact absurd (List.mem_singleton.2 rfl) hr
    | _ => rfl

/-- Settles O26: IN of a byte and of a word, from a port by number and from the port in DX. -/
theorem inputReadsThePort : Obligations.InputReadsThePort := by
  refine fun s p => ⟨?bytes, ?words⟩ <;> simp only [List.forall_mem_cons]
  case bytes =>
    exact ⟨⟨_, rfl, byteIn_inByte s _⟩, ⟨_, rfl, byteIn_inByte s _⟩, List.forall_mem_nil _⟩
  case words =>
    exact ⟨⟨_, rfl, wordIn_inWord s _⟩, ⟨_, rfl, wordIn_inWord s _⟩, List.forall_mem_nil _⟩

/-! ### OUT -/

/-- A word goes out in one transfer or in two with the low port first (R50, D16). -/
theorem ioWordWrite_eq (s : State) (port v : Word) : s.ioWordWrite port v = { s with
    trace := (if s.params.variant = .i8086 ∧ port.toNat % 2 = 0 then [.ioWrite16 port v]
      else [.ioWrite8 (port + 1) (hiByte v), .ioWrite8 port (loByte v)]) ++ s.trace } := by
  by_cases hw : s.wideTransfer port
  · rw [State.ioWordWrite, if_pos hw, if_pos ((wideTransfer_iff s port).1 hw)]
    rfl
  · rw [State.ioWordWrite, if_neg hw, if_neg fun h => hw ((wideTransfer_iff s port).2 h)]
    rfl

/-- Settles O27: OUT of a byte and of a word, to a port by number and to the port in DX. -/
theorem outputWritesThePort : Obligations.OutputWritesThePort := by
  refine fun s p => ⟨?bytes, ?words⟩ <;> simp only [List.forall_mem_cons]
  case bytes => exact ⟨rfl, rfl, List.forall_mem_nil _⟩
  case words =>
    exact ⟨congrArg Host.Outcome.next (ioWordWrite_eq s _ s.ax), congrArg Host.Outcome.next (ioWordWrite_eq s _ s.ax),
      List.forall_mem_nil _⟩

end Sys2Proof.Proofs
end

section
/-! PROOFS. Addition and subtraction (spec/41_arithmetic.md R140 to R142, R146, R147): ADD and ADC are ADDW on their
destination, SUB and SBB are SUBW; obligations O1 and O2. -/
namespace Sys2Proof.Proofs
open Sys2Proof Sys2Proof.Machine

/-! ### ADDW and SUBW on a destination -/

/-- An instruction that applies ADDW to its 16-bit destination gives the sum and the six flags of it (R140). -/
theorem givesWord_of_addW {s : State} (h : s.undisturbed) {i : Instr} {e : Ev} {b : Word} {c : Bool}
    (hx : exec i s = .next (s.aluEv (addW c) e b)) :
    s.givesWord i e (s.readEv e + b + carryOf 16 c) (flagsOfSum (s.readEv e) b c s.flags) :=
  State.givesWord_of_aluEv h hx (addW_fst16 c _ _ _) (addW_flags16 c _ _ _)

/-- As `givesWord_of_addW`, for an 8-bit destination. -/
theorem givesByte_of_addW {s : State} (h : s.undisturbed) {i : Instr} {e : Eb} {b : Byte} {c : Bool}
    (hx : exec i s = .next (s.aluEb (addW c) e b)) :
    s.givesByte i e (s.readEb e + b + carryOf 8 c) (flagsOfSum (s.readEb e) b c s.flags) :=
  State.givesByte_of_aluEb h hx (addW_fst8 c _ _ _) (addW_flags8 c _ _ _)

/-- An instruction that applies SUBW to its 16-bit destination gives the difference and the six flags of it (R140). -/
theorem givesWord_of_subW {s : State} (h : s.undisturbed) {i : Instr} {e : Ev} {b : Word} {c : Bool}
    (hx : exec i s = .next (s.aluEv (subW c) e b)) :
    s.givesWord i e (s.readEv e - b - carryOf 16 c) (flagsOfDifference (s.readEv e) b c s.flags) :=
  State.givesWord_of_aluEv h hx (subW_fst16 c _ _ _) (subW_flags16 c _ _ _)

/-- As `givesWord_of_subW`, for an 8-bit destination. -/
theorem givesByte_of_subW {s : State} (h : s.undisturbed) {i : Instr} {e : Eb} {b : Byte} {c : Bool}
    (hx : exec i s = .next (s.aluEb (subW c) e b)) :
    s.givesByte i e (s.readEb e - b - carryOf 8 c) (flagsOfDifference (s.readEb e) b c s.flags) :=
  State.givesByte_of_aluEb h hx (subW_fst8 c _ _ _) (subW_flags8 c _ _ _)

/-! ### The carry that goes in -/

/-- ADC adds the CF of before the instruction (R142). -/
theorem aluEv_adcOp (s : State) (e : Ev) (b : Word) : s.aluEv adcOp e b = s.aluEv (addW s.flags.cF) e b := rfl

theorem aluEb_adcOp (s : State) (e : Eb) (b : Byte) : s.aluEb adcOp e b = s.aluEb (addW s.flags.cF) e b := rfl

/-- SBB borrows the CF of before the instruction (R147). -/
theorem aluEv_sbbOp (s : State) (e : Ev) (b : Word) : s.aluEv sbbOp e b = s.aluEv (subW s.flags.cF) e b := rfl

theorem aluEb_sbbOp (s : State) (e : Eb) (b : Byte) : s.aluEb sbbOp e b = s.aluEb (subW s.flags.cF) e b := rfl

/-! ### The obligations -/

/-- Settles O1: every form is ADDW on its destination, with no carry for ADD and with CF for ADC. -/
theorem addAndAdcGiveTheSum : Obligations.AddAndAdcGiveTheSum := by
  refine fun s hs => ⟨fun e r imm i8 q hq => givesWord_of_addW hs ?words,
    fun e r imm q hq => givesByte_of_addW hs ?bytes⟩ <;> revert q
  case words =>
    simp only [List.forall_mem_cons, ← aluEv_adcOp]
    exact ⟨rfl, rfl, rfl, rfl, rfl, rfl, rfl, rfl, rfl, rfl, List.forall_mem_nil _⟩
  case bytes =>
    simp only [List.forall_mem_cons, ← aluEb_adcOp]
    exact ⟨rfl, rfl, rfl, rfl, rfl, rfl, rfl, rfl, rfl, rfl, List.forall_mem_nil _⟩

/-- Settles O2: every form is SUBW on its destination, with no borrow for SUB and with CF for SBB. -/
theorem subAndSbbGiveTheDifference : Obligations.SubAndSbbGiveTheDifference := by
  refine fun s hs => ⟨fun e r imm i8 q hq => givesWord_of_subW hs ?words,
    fun e r imm q hq => givesByte_of_subW hs ?bytes⟩ <;> revert q
  case words =>
    simp only [List.forall_mem_cons, ← aluEv_sbbOp]
    exact ⟨rfl, rfl, rfl, rfl, rfl, rfl, rfl, rfl, rfl, rfl, List.forall_mem_nil _⟩
  case bytes =>
    simp only [List.forall_mem_cons, ← aluEb_sbbOp]
    exact ⟨rfl, rfl, rfl, rfl, rfl, rfl, rfl, rfl, rfl, rfl, List.forall_mem_nil _⟩

end Sys2Proof.Proofs
end

section
/-! PROOFS. The logicals (spec/42_logic_shift.md R170 to R175): AND, OR and XOR on their destination, TEST on the flags
alone, NOT with the flags kept; obligation O15. -/
namespace Sys2Proof.Proofs
open Sys2Proof Sys2Proof.Machine

/-! ### A read-modify-write with undefined flags -/

/-- An instruction that draws its undefined flags and then is a read-modify-write of its 16-bit operand gives the result
and the flags of the operation (R84). -/
theorem givesWord_of_drew_rmwEv {s : State} (h : s.undisturbed) {i : Instr} {e : Ev} {op : Word → Flags → Word × Flags}
    {v : Word} {P : Flags → Prop} (hx : exec i s = .next (s.drew.rmwEv e op)) (hv : (op (s.readEv e) s.flags).1 = v)
    (hP : P (op (s.readEv e) s.flags).2) : s.givesWord i e v P := by
  obtain ⟨hread, hflags, hkept⟩ := State.rmwEv_spec (s := s.drew) h e op
  rw [State.readEv_drew] at hread hflags
  exact State.givesWord_of_drew hx ⟨fun hl => (hread hl).trans hv, hflags ▸ hP, hkept⟩

/-- As `givesWord_of_drew_rmwEv`, for an 8-bit operand. -/
theorem givesByte_of_drew_rmwEb {s : State} (h : s.undisturbed) {i : Instr} {e : Eb} {op : Byte → Flags → Byte × Flags}
    {v : Byte} {P : Flags → Prop} (hx : exec i s = .next (s.drew.rmwEb e op)) (hv : (op (s.readEb e) s.flags).1 = v)
    (hP : P (op (s.readEb e) s.flags).2) : s.givesByte i e v P := by
  obtain ⟨hread, hflags, hkept⟩ := State.rmwEb_spec (s := s.drew) h e op
  rw [State.readEb_drew] at hread hflags
  exact State.givesByte_of_drew hx ⟨fun hl => (hread hl).trans hv, hflags ▸ hP, hkept⟩

/-! ### Logical operations -/

/-- The operation leaves the flags of a logical with its result, whatever they were (R170). -/
def IsLogical {w : Nat} (op : BitVec w → BitVec w → Flags → BitVec w × Flags) : Prop :=
  ∀ a b f, flagsOfLogic (op a b f).1 f (op a b f).2

theorem andOp_isLogical {w : Nat} (u : StatusFlag → Bool) : IsLogical (andOp (w := w) u) :=
  fun a b f => logic_flags u (a &&& b) f

theorem orOp_isLogical {w : Nat} (u : StatusFlag → Bool) : IsLogical (orOp (w := w) u) :=
  fun a b f => logic_flags u (a ||| b) f

theorem xorOp_isLogical {w : Nat} (u : StatusFlag → Bool) : IsLogical (xorOp (w := w) u) :=
  fun a b f => logic_flags u (a ^^^ b) f

/-- An instruction that applies a logical operation to its 16-bit destination gives the result and its flags (R170). -/
theorem givesWord_of_isLogical {s : State} (h : s.undisturbed) {i : Instr} {e : Ev} {b v : Word}
    {op : Word → Word → Flags → Word × Flags} (hop : IsLogical op) (hx : exec i s = .next (s.drew.aluEv op e b))
    (hv : (op (s.readEv e) b s.flags).1 = v) : s.givesWord i e v (flagsOfLogic v s.flags) :=
  givesWord_of_drew_rmwEv h hx hv (hv ▸ hop (s.readEv e) b s.flags)

/-- As `givesWord_of_isLogical`, for an 8-bit destination. -/
theorem givesByte_of_isLogical {s : State} (h : s.undisturbed) {i : Instr} {e : Eb} {b v : Byte}
    {op : Byte → Byte → Flags → Byte × Flags} (hop : IsLogical op) (hx : exec i s = .next (s.drew.aluEb op e b))
    (hv : (op (s.readEb e) b s.flags).1 = v) : s.givesByte i e v (flagsOfLogic v s.flags) :=
  givesByte_of_drew_rmwEb h hx hv (hv ▸ hop (s.readEb e) b s.flags)

/-! ### TEST -/

/-- TEST of two words gives the flags of their AND (R175). -/
theorem givesFlags_of_test16 {s : State} {i : Instr} {a b : Word}
    (hx : exec i s = .next (s.drew.flags16 (andOp s.undef) a b)) : s.givesFlags i (flagsOfLogic (a &&& b) s.flags) :=
  State.givesFlags_of_drew hx (andOp_isLogical s.undef a b s.flags)

/-- As `givesFlags_of_test16`, for two bytes. -/
theorem givesFlags_of_test8 {s : State} {i : Instr} {a b : Byte}
    (hx : exec i s = .next (s.drew.flags8 (andOp s.undef) a b)) : s.givesFlags i (flagsOfLogic (a &&& b) s.flags) :=
  State.givesFlags_of_drew hx (andOp_isLogical s.undef a b s.flags)

/-! ### The obligation -/

/-- Settles O15: AND, OR and XOR are logical operations on their destination, TEST is AND without its result, NOT hands
the flags on. -/
theorem logicGivesTheBitwiseResult : Obligations.LogicGivesTheBitwiseResult := by
  refine fun s => ⟨fun hs => ⟨fun e r imm => ?words, fun e r imm => ?bytes⟩, fun e r imm => ?testWords,
    fun e r imm => ?testBytes, fun hs => ⟨fun e => ?notWord, fun e => ?notByte⟩⟩
  case words =>
    have and {i d b v} := givesWord_of_isLogical hs (i := i) (e := d) (b := b) (v := v) (andOp_isLogical s.undef)
    have or {i d b v} := givesWord_of_isLogical hs (i := i) (e := d) (b := b) (v := v) (orOp_isLogical s.undef)
    have xor {i d b v} := givesWord_of_isLogical hs (i := i) (e := d) (b := b) (v := v) (xorOp_isLogical s.undef)
    simp only [List.forall_mem_cons]
    exact ⟨and rfl rfl, and rfl rfl, and rfl rfl, and rfl rfl,
      or rfl rfl, or rfl rfl, or rfl rfl, or rfl rfl,
      xor rfl rfl, xor rfl rfl, xor rfl rfl, xor rfl rfl, List.forall_mem_nil _⟩
  case bytes =>
    have and {i d b v} := givesByte_of_isLogical hs (i := i) (e := d) (b := b) (v := v) (andOp_isLogical s.undef)
    have or {i d b v} := givesByte_of_isLogical hs (i := i) (e := d) (b := b) (v := v) (orOp_isLogical s.undef)
    have xor {i d b v} := givesByte_of_isLogical hs (i := i) (e := d) (b := b) (v := v) (xorOp_isLogical s.undef)
    simp only [List.forall_mem_cons]
    exact ⟨and rfl rfl, and rfl rfl, and rfl rfl, and rfl rfl,
      or rfl rfl, or rfl rfl, or rfl rfl, or rfl rfl,
      xor rfl rfl, xor rfl rfl, xor rfl rfl, xor rfl rfl, List.forall_mem_nil _⟩
  case testWords =>
    simp only [List.forall_mem_cons]
    exact ⟨givesFlags_of_test16 rfl, givesFlags_of_test16 rfl, givesFlags_of_test16 rfl, List.forall_mem_nil _⟩
  case testBytes =>
    simp only [List.forall_mem_cons]
    exact ⟨givesFlags_of_test8 rfl, givesFlags_of_test8 rfl, givesFlags_of_test8 rfl, List.forall_mem_nil _⟩
  case notWord => exact ⟨_, rfl, State.rmwEv_spec hs e notOp⟩
  case notByte => exact ⟨_, rfl, State.rmwEb_spec hs e notOp⟩

end Sys2Proof.Proofs
end

section
/-! PROOFS. The string primitives (spec/43_string.md R190 to R196): what one execution changes and what it leaves alone;
obligation O28. -/
namespace Sys2Proof.Proofs
open Sys2Proof Sys2Proof.Machine

/-! ### The instructions -/

/-- The instruction that is a primitive (R190). -/
def stringInstr : Primitive → Instr
  | .movsb => .movsb | .movsw => .movsw | .cmpsb => .cmpsb | .cmpsw => .cmpsw | .scasb => .scasb | .scasw => .scasw
  | .lodsb => .lodsb | .lodsw => .lodsw | .stosb => .stosb | .stosw => .stosw

theorem exec_stringInstr (p : Primitive) (s : State) : exec (stringInstr p) s = .next (s.repeatString p) := by
  cases p <;> rfl

/-- Without a repeat prefix the primitive is executed once (R190). -/
theorem exec_stringInstr_once {s : State} (h : s.cur.rep = none) (p : Primitive) :
    exec (stringInstr p) s = .next (s.stringOnce p) := by
  rw [exec_stringInstr, State.repeatString, h]

/-! ### One execution, with no other master on the bus -/

theorem stringOnce_movsb {s : State} (h : s.undisturbed) : s.stringOnce .movsb =
    ((s.write8 s.es s.di (s.read8 s.srcSeg s.si)).stepSi 1).stepDi 1 := by
  rw [State.stringOnce, State.busGap_of_undisturbed h]

theorem stringOnce_movsw {s : State} (h : s.undisturbed) : s.stringOnce .movsw =
    ((s.write16 s.es s.di (s.read16 s.srcSeg s.si)).stepSi 2).stepDi 2 := by
  rw [State.stringOnce, State.busGap_of_undisturbed h]

theorem stringOnce_cmpsb {s : State} (h : s.undisturbed) : s.stringOnce .cmpsb =
    ((s.flags8 subOp (s.read8 s.srcSeg s.si) (s.read8 s.es s.di)).stepSi 1).stepDi 1 := by
  rw [State.stringOnce, State.busGap_of_undisturbed h]

theorem stringOnce_cmpsw {s : State} (h : s.undisturbed) : s.stringOnce .cmpsw =
    ((s.flags16 subOp (s.read16 s.srcSeg s.si) (s.read16 s.es s.di)).stepSi 2).stepDi 2 := by
  rw [State.stringOnce, State.busGap_of_undisturbed h]

/-- A byte reads as what was last written to it, where it lands in RAM (R63). -/
theorem read8_write8_lands {s : State} {base off : Word} (h : s.lands fun a => a = phys base off) (v : Byte) :
    (s.write8 base off v).read8 base off = v :=
  (s.read8_write8 base off off v).trans (if_pos ⟨rfl, h _ rfl⟩)

/-- The state with all blanked that a primitive may change: AX, SI and DI, the six status flags, memory and what the host
has heard. -/
def besideString (s : State) : State :=
  { s with
    ax := 0, si := 0, di := 0, mem := [], trace := []
    flags := { Flags.clear with tF := s.flags.tF, iF := s.flags.iF, dF := s.flags.dF } }

theorem besideString_stringOnce {s : State} (h : s.undisturbed) (p : Primitive) :
    besideString (s.stringOnce p) = besideString s := by
  cases p with
  | movsb => rw [stringOnce_movsb h]; rfl
  | movsw => rw [stringOnce_movsw h]; rfl
  | cmpsb => rw [stringOnce_cmpsb h]; rfl
  | cmpsw => rw [stringOnce_cmpsw h]; rfl
  | scasb | scasw | lodsb | lodsw | stosb | stosw => rfl

/-- What no primitive changes, in the terms of the statements (R191 to R195). -/
theorem stringOnce_kept {s : State} (h : s.undisturbed) (p : Primitive) : State.segsKept s (s.stringOnce p) [] ∧
    State.othersKept s (s.stringOnce p) ∧ State.goesOn s (s.stringOnce p) := by
  have hb := besideString_stringOnce h p
  have kept {α : Type} (f : State → α) : f (besideString (s.stringOnce p)) = f (besideString s) := congrArg f hb
  exact ⟨fun r _ => by cases r; exacts [kept State.es, kept State.cs, kept State.ss, kept State.ds],
    ⟨⟨kept State.nmiPending, kept State.busReleased, kept State.unsampled, kept State.lock, kept State.beforeFetch,
      kept State.pins, kept State.resetSeen, kept State.outside, kept State.masters, kept State.params⟩,
      kept State.run, kept State.inhibitInt, kept State.ioIn⟩,
    kept State.ip, kept State.queue, kept State.prefetched, kept State.cur⟩

/-- As `stringOnce_kept`, for a primitive that stores nothing. -/
theorem stringOnce_rest {s : State} (h : s.undisturbed) (p : Primitive) (ht : (s.stringOnce p).trace = s.trace) :
    State.segsKept s (s.stringOnce p) [] ∧ State.restKept s (s.stringOnce p) ∧ State.goesOn s (s.stringOnce p) := by
  obtain ⟨hsegs, hothers, hgoes⟩ := stringOnce_kept h p
  exact ⟨hsegs, ⟨hothers, ht⟩, hgoes⟩

/-! ### The indexes -/

/-- An index moves up, or down when DF = 1 (R190). -/
theorem add_stringDelta (s : State) (x n : Word) : x + s.stringDelta n = if s.flags.dF then x - n else x + n := by
  unfold State.stringDelta
  split
  · exact (BitVec.sub_eq_add_neg x n).symm
  · rfl

theorem regsKept_stepSi (s : State) (n : Word) : State.regsKept s (s.stepSi n) [.si] := regsKept_setReg16 s .si _

theorem regsKept_stepDi (s : State) (n : Word) : State.regsKept s (s.stepDi n) [.di] := regsKept_setReg16 s .di _

/-- MOVS and CMPS move both indexes and change no other register (R191, R192). -/
theorem regsKept_stepSi_stepDi (s : State) (n : Word) : State.regsKept s ((s.stepSi n).stepDi n) [.si, .di] :=
  State.regsKept_trans (State.regsKept_mono (regsKept_stepSi s n) (by decide))
    (State.regsKept_mono (regsKept_stepDi _ n) (by decide))

/-- LODS loads AX, or its lower half, and moves SI (R194). -/
theorem regsKept_setReg16_stepSi (s : State) (v n : Word) : State.regsKept s ((s.setReg16 .ax v).stepSi n) [.ax, .si] :=
  State.regsKept_trans (State.regsKept_mono (regsKept_setReg16 s .ax v) (by decide))
    (State.regsKept_mono (regsKept_stepSi _ n) (by decide))

/-! ### The obligation -/

/-- Settles O28: each primitive is its transfer or comparison and then the move of its indexes. -/
theorem stringPrimitivesOnce : Obligations.StringPrimitivesOnce := by
  intro s hs hrep
  have runs (p : Primitive) : exec (stringInstr p) s = .next (s.stringOnce p) := exec_stringInstr_once hrep p
  have moved (x n : Word) := add_stringDelta s x n
  have hword : ((2 : Word) = 1) = False := by decide
  have hbyte : ((1 : Word) = 2) = False := by decide
  refine ⟨?movs, ?cmps, ?scas, ?lods, ?stos⟩ <;>
    simp only [List.forall_mem_cons, List.not_mem_nil, false_implies, implies_true, and_true, if_true, if_false, hword,
      hbyte, false_and, true_and, or_false]
  case movs =>
    refine ⟨⟨_, runs .movsb, ?byte⟩, _, runs .movsw, ?word⟩
    case byte =>
      have kept := stringOnce_kept hs .movsb
      rw [stringOnce_movsb hs] at kept ⊢
      exact ⟨fun hl => read8_write8_lands hl _, State.memKept_store s _ _ _ rfl, moved _ 1, moved _ 1, rfl,
        regsKept_stepSi_stepDi _ 1, kept⟩
    case word =>
      have kept := stringOnce_kept hs .movsw
      rw [stringOnce_movsw hs] at kept ⊢
      exact ⟨fun hl => State.read16_write16_lands hl _, State.memKept_write16 s _ _ _, moved _ 2, moved _ 2, rfl,
        regsKept_stepSi_stepDi _ 2, kept⟩
  case cmps =>
    refine ⟨⟨_, runs .cmpsb, ?byte⟩, _, runs .cmpsw, ?word⟩
    case byte =>
      have rest := stringOnce_rest hs .cmpsb
      rw [stringOnce_cmpsb hs] at rest ⊢
      exact ⟨subW_flags8 false _ _ _, moved _ 1, moved _ 1, rfl, regsKept_stepSi_stepDi _ 1, rest rfl⟩
    case word =>
      have rest := stringOnce_rest hs .cmpsw
      rw [stringOnce_cmpsw hs] at rest ⊢
      exact ⟨subW_flags16 false _ _ _, moved _ 2, moved _ 2, rfl, regsKept_stepSi_stepDi _ 2, rest rfl⟩
  case scas =>
    exact ⟨⟨_, runs .scasb, subW_flags8 false _ _ _, moved _ 1, rfl, regsKept_stepDi _ 1,
        stringOnce_rest hs .scasb rfl⟩,
      _, runs .scasw, subW_flags16 false _ _ _, moved _ 2, rfl, regsKept_stepDi _ 2, stringOnce_rest hs .scasw rfl⟩
  case lods =>
    exact ⟨⟨_, runs .lodsb, ⟨loByte_wordOf _ _, hiByte_wordOf _ _⟩, moved _ 1, rfl, rfl,
        regsKept_setReg16_stepSi s _ 1, stringOnce_rest hs .lodsb rfl⟩,
      _, runs .lodsw, rfl, moved _ 2, rfl, rfl, regsKept_setReg16_stepSi s _ 2, stringOnce_rest hs .lodsw rfl⟩
  case stos =>
    exact ⟨⟨_, runs .stosb, fun hl => read8_write8_lands hl _, State.memKept_store s _ _ _ rfl, moved _ 1, rfl,
        regsKept_stepDi _ 1, stringOnce_kept hs .stosb⟩,
      _, runs .stosw, fun hl => State.read16_write16_lands hl _, State.memKept_write16 s _ _ _, moved _ 2, rfl,
        regsKept_stepDi _ 2, stringOnce_kept hs .stosw⟩

end Sys2Proof.Proofs
end

section
/-! PROOFS. Interrupts between two repetitions (spec/43_string.md R197, R198, R201; spec/60_exceptions.md R279, R281,
R287, R291): one repetition leaves the machine as it stood, and what is due is taken, or put off, at the last prefix
byte; obligation O30. -/
namespace Sys2Proof.Proofs
open Sys2Proof Sys2Proof.Machine

/-! ### States that agree in pins, requests and masters -/

theorem quiet_of_systemKept {s t : State} (h : State.systemKept s t) (hq : s.quiet) : t.quiet := by
  obtain ⟨-, -, -, -, -, -, -, houtside, hmasters, -⟩ := h
  exact ⟨houtside.trans hq.1, hmasters.trans hq.2⟩

theorem busRequest_of_systemKept {s t : State} (h : State.systemKept s t) : t.busRequest = s.busRequest := by
  obtain ⟨-, hreleased, -, -, -, hpins, -, -, -, hparams⟩ := h
  simp only [State.busRequest, hreleased, hpins, hparams]

theorem busFree_of_systemKept {s t : State} (h : State.systemKept s t) (hb : s.busFree) : t.busFree := by
  have hrequest := busRequest_of_systemKept h
  obtain ⟨-, -, -, hlock, -, hpins, hseen, -⟩ := h
  simpa only [State.busFree, State.resetAsked, hrequest, hlock, hpins, hseen] using hb

theorem settled_of_systemKept {s t : State} (h : State.systemKept s t) (hs : s.settled) : t.settled := by
  obtain ⟨-, hreleased, hunsampled, -, hfirst, -⟩ := h
  simpa only [State.settled, hreleased, hunsampled, hfirst] using hs

/-! ### One repetition -/

/-- A primitive looks at no repeat prefix (R191 to R195). -/
theorem stringOnce_rep {s : State} (h : s.undisturbed) (r : Option Bool) (p : Primitive) :
    ({ s with cur := { s.cur with rep := r } } : State).stringOnce p =
      { s.stringOnce p with cur := { s.cur with rep := r } } := by
  have h' : ({ s with cur := { s.cur with rep := r } } : State).undisturbed := h
  cases p with
  | movsb => rw [stringOnce_movsb h, stringOnce_movsb h']; rfl
  | movsw => rw [stringOnce_movsw h, stringOnce_movsw h']; rfl
  | cmpsb => rw [stringOnce_cmpsb h, stringOnce_cmpsb h']; rfl
  | cmpsw => rw [stringOnce_cmpsw h, stringOnce_cmpsw h']; rfl
  | scasb | scasw | lodsb | lodsw | stosb | stosw => rfl

/-- A primitive neither counts nor masks (R191 to R196). -/
theorem stringOnce_cx_iF {s : State} (h : s.undisturbed) (p : Primitive) :
    (s.stringOnce p).cx = s.cx ∧ (s.stringOnce p).flags.iF = s.flags.iF :=
  ⟨(congrArg State.cx (besideString_stringOnce h p) :), (congrArg (·.flags.iF) (besideString_stringOnce h p) :)⟩

/-- A repeated primitive that is to go on and is cut short behind its first repetition (R196, R197). -/
theorem repeatString_of_cut {s r : State} {p : Primitive} {z : Bool} (hrep : s.cur.rep = some z)
    (hr : (s.stringOnce p).countDown = r) (hcx : r.cx = s.cx - 1) (hmore : 1 < s.cx.toNat)
    (hz : p.compares = true → r.flags.zF = z) (hcut : r.betweenRepetitions.cur.cut = true) :
    s.repeatString p = r.betweenRepetitions := by
  obtain ⟨n, hn⟩ : ∃ n, s.cx.toNat = n + 1 := Nat.exists_eq_add_one.2 (by omega)
  have hgoes : ¬ (p.compares && r.flags.zF != z) = true := by
    cases hc : p.compares with
    | false => simp
    | true => simp [hz hc]
  have hcount : ¬ r.cx = 0 := by rw [hcx]; bv_omega
  simp only [State.repeatString, hrep, hn, State.repetitions, hr, if_neg hgoes, if_neg hcount, if_pos hcut]

/-! ### What a sampling that takes something leaves -/

theorem takeSampled_left (s : State) (n : Byte) : (s.takeSampled n).lock = false ∧
    (s.takeSampled n).nmiPending = s.nmiPending ∧ (s.takeSampled n).cur = { s.cur with jumped := true } := by
  simp [State.takeSampled, State.takeInterrupt, State.jumpFar, State.jumpNear]

/-- After the external requests no NMI is pending; if one was taken, the lock has ended (R198, R287). -/
theorem takeExternal_left (s : State) : s.takeExternal.1.nmiPending = false ∧ (s.takeExternal = (s, false) ∨
    s.takeExternal.2 = true ∧ s.takeExternal.1.lock = false ∧ s.takeExternal.1.cur = { s.cur with jumped := true }) := by
  unfold State.takeExternal
  split
  next =>
    obtain ⟨hlock, hnmi, hcur⟩ := takeSampled_left { s with nmiPending := false } 2
    exact ⟨hnmi, .inr ⟨rfl, hlock, hcur⟩⟩
  next hn =>
    have hn := Bool.eq_false_iff.2 hn
    split
    next =>
      obtain ⟨hlock, hnmi, hcur⟩ := takeSampled_left s.acknowledged s.pins.intrType
      exact ⟨hnmi.trans hn, .inr ⟨rfl, hlock, hcur⟩⟩
    next => exact ⟨hn, .inl rfl⟩

/-- A sampling that takes something leaves no NMI and no lock, and the queue discarded (R57, R198, R287). -/
theorem sample_left {s v : State} {tf0 seq : Bool} (h : s.sample tf0 seq = (v, true)) :
    v.lock = false ∧ v.nmiPending = false ∧ v.cur = { s.cur with jumped := true } := by
  obtain ⟨hnmi, hcases⟩ := takeExternal_left s
  unfold State.sample at h
  dsimp only at h
  split at h
  next =>
    obtain ⟨hlock, hkept, hcur⟩ := takeSampled_left s.takeExternal.1 1
    obtain rfl := (Prod.mk.inj h).1
    refine ⟨hlock, hkept.trans hnmi, hcur.trans ?_⟩
    rcases hcases with he | ⟨-, -, he⟩ <;> rw [he]
  next =>
    rw [h] at hnmi hcases
    rcases hcases with he | ⟨-, hlock, hcur⟩
    · exact absurd (Prod.mk.inj he).2 (by decide)
    · exact ⟨hlock, hnmi, hcur⟩

/-! ### Between two repetitions -/

theorem awaitBus_of_free {r : State} (hq : r.quiet) (hb : r.busFree) (hs : r.settled) :
    State.awaitBus r.outside.length r = r := by
  rw [hq.1, List.length_nil, State.awaitBus, State.heldBy_of_busFree hb]
  exact State.regain_of_none hs.1 hs.2.2

/-- The state in which a repetition is sampled: IP is at the last prefix byte, whose offset is saved (R197, R201). -/
def atPrefix (r : State) : State := { r with ip := r.cur.ipPrefix }

/-- Nobody asks for the bus: what is taken cuts the instruction short (R197). -/
theorem betweenRepetitions_of_taken {r v : State} (hq : r.quiet) (hb : r.busFree) (hs : r.settled)
    (hnone : r.busRequest = none) (h : (atPrefix r).sample r.cur.tf0 false = (v, true)) :
    r.betweenRepetitions = v.cutShort := by
  have htaken : r.sampleRepetition = v.cutShort := by
    unfold atPrefix at h
    simp only [State.sampleRepetition, hb.1, State.heldBy_of_busFree hb, h, Bool.false_eq_true, if_false, if_true,
      Option.isSome_none]
  simp only [State.betweenRepetitions, State.look_of_quiet hq, awaitBus_of_free hq hb hs, hnone, Option.isSome_none,
    Bool.and_false, Bool.false_and, Bool.false_eq_true, if_false, htaken]

/-- The sampling there is put off: the lock has ended and the master that asked has the bus (R198, R279). -/
def putOffFor (r : State) (m : BusMaster) : State :=
  { ((atPrefix r).setLock false).release m with
    unsampled := some { tf0 := r.cur.tf0, seq := false, resume := r.cur.ip0, relock := false } }

/-- LOCK has held off a request for the bus, and something is due: the lock ends, the other master gets the bus, and the
sampling is put off (R198, R279). -/
theorem betweenRepetitions_of_asked {r : State} {m : BusMaster} (hq : r.quiet) (hb : r.busFree) (hs : r.settled)
    (hm : r.busRequest = some m) (hdue : (r.cur.tf0 || r.externalDue) = true) :
    r.betweenRepetitions = (putOffFor r m).cutShort := by
  have hlock : r.lock = true := hb.2.resolve_left (by simp [hm])
  have hheld : (r.setLock false).heldBy = some m :=
    (heldBy_of_unlocked (s := r.setLock false) rfl hb.1).trans hm
  have hawait : State.awaitBus r.outside.length (r.setLock false) = (r.setLock false).release m := by
    rw [hq.1, List.length_nil, State.awaitBus, hheld]
  have hreset : ((r.setLock false).release m).resetAsked = false := hb.1
  simp only [State.betweenRepetitions, State.look_of_quiet hq, awaitBus_of_free hq hb hs, hlock, hm, sample_snd, hdue,
    Option.isSome_some, Bool.and_true, if_true, hawait, State.sampleRepetition, hreset, heldBy_release hheld,
    Bool.false_eq_true, if_false]
  rfl

/-! ### The first repetition of several -/

/-- `s` after one repetition, still in the same instruction. -/
def repeatedOnce (s : State) (p : Primitive) : State := { s.stringOnce p with cx := s.cx - 1, cur := s.cur }

theorem countDown_stringOnce {s : State} (h : s.undisturbed) (p : Primitive) :
    (s.stringOnce p).countDown = repeatedOnce s p := by
  obtain ⟨-, -, -, -, -, hcur⟩ := stringOnce_kept h p
  rw [repeatedOnce, State.countDown, (stringOnce_cx_iF h p).1, ← hcur]

theorem repeatedOnce_kept {s : State} (h : s.undisturbed) (p : Primitive) :
    State.systemKept s (repeatedOnce s p) ∧ (repeatedOnce s p).flags.iF = s.flags.iF := by
  obtain ⟨-, ⟨hsystem, -⟩, -⟩ := stringOnce_kept h p
  exact ⟨hsystem, (stringOnce_cx_iF h p).2⟩

section
variable {s : State} {p : Primitive} {z : Bool} (hq : s.quiet) (hb : s.busFree) (hs : s.settled)
  (hrep : s.cur.rep = some z) (hmore : 1 < s.cx.toNat) (hz : p.compares = true → (repeatedOnce s p).flags.zF = z)
include hq hrep hmore hz

/-- The instruction ends behind its first repetition if that is where it is cut short. -/
theorem exec_stringInstr_of_cut {t : State} (h : (repeatedOnce s p).betweenRepetitions = t.cutShort) :
    exec (stringInstr p) s = .next t.cutShort := by
  have hcut : (repeatedOnce s p).betweenRepetitions.cur.cut = true := by rw [h]; rfl
  rw [exec_stringInstr, repeatString_of_cut hrep (countDown_stringOnce (.inr hq.2) p) rfl hmore hz hcut, h]

include hb hs

/-- What is taken behind the first repetition ends the instruction there (R197). -/
theorem exec_stringInstr_of_taken (hnone : s.busRequest = none) {v : State}
    (h : (atPrefix (repeatedOnce s p)).sample s.cur.tf0 false = (v, true)) :
    exec (stringInstr p) s = .next v.cutShort ∧ v.lock = false ∧ v.nmiPending = false ∧
      v.cutShort.cur = { s.cur with cut := true, jumped := true } := by
  obtain ⟨hsystem, -⟩ := repeatedOnce_kept (.inr hq.2) p
  obtain ⟨hlock, hnmi, hcur⟩ := sample_left h
  refine ⟨exec_stringInstr_of_cut hq hrep hmore hz ?_, hlock, hnmi, ?_⟩
  · exact betweenRepetitions_of_taken (quiet_of_systemKept hsystem hq) (busFree_of_systemKept hsystem hb)
      (settled_of_systemKept hsystem hs) ((busRequest_of_systemKept hsystem).trans hnone) h
  · rw [State.cutShort, hcur]
    rfl

/-- What is due behind the first repetition, while LOCK holds off a request, is put off there (R198, R279). -/
theorem exec_stringInstr_of_asked {m : BusMaster} (hm : s.busRequest = some m)
    (hdue : (s.cur.tf0 || s.externalDue) = true) :
    exec (stringInstr p) s = .next (putOffFor (repeatedOnce s p) m).cutShort := by
  obtain ⟨hsystem, hif⟩ := repeatedOnce_kept (.inr hq.2) p
  have ⟨hnmi, _, _, _, _, hpins, _⟩ := hsystem
  have hsame : (repeatedOnce s p).externalDue = s.externalDue := by simp only [State.externalDue, hnmi, hpins, hif]
  exact exec_stringInstr_of_cut hq hrep hmore hz (betweenRepetitions_of_asked (quiet_of_systemKept hsystem hq)
    (busFree_of_systemKept hsystem hb) (settled_of_systemKept hsystem hs)
    ((busRequest_of_systemKept hsystem).trans hm) (hsame ▸ hdue))

end

/-! ### The obligation -/

/-- The instructions that R196 repeats, each with whether it looks at ZF, are the primitives. -/
theorem forall_repeated {P : Instr × Bool → Prop} (h : ∀ p, P (stringInstr p, p.compares)) :
    ∀ q ∈ ([(.movsb, false), (.movsw, false), (.cmpsb, true), (.cmpsw, true), (.scasb, true), (.scasw, true),
      (.lodsb, false), (.lodsw, false), (.stosb, false), (.stosw, false)] : List (Instr × Bool)), P q := by
  simp only [List.forall_mem_cons]
  exact ⟨h .movsb, h .movsw, h .cmpsb, h .cmpsw, h .scasb, h .scasw, h .lodsb, h .lodsw, h .stosb, h .stosw,
    List.forall_mem_nil _⟩

/-- Settles O30: one repetition changes no pin, request or mask, so that what stands in `s` is sampled behind it, at the
last prefix byte. -/
theorem repetitionIsInterruptedAtThePrefix : Obligations.RepetitionIsInterruptedAtThePrefix := by
  intro s z hq hb hs hrep hmore
  refine forall_repeated fun p => ?_
  have hundisturbed : s.undisturbed := .inr hq.2
  obtain ⟨⟨hnmi, -, -, -, -, hpins, -, -, hmasters, -⟩, hif⟩ := repeatedOnce_kept hundisturbed p
  have hmasters : (atPrefix (repeatedOnce s p)).masters = [] := hmasters.trans hq.2
  have once := (exec_stringInstr_once rfl p).trans (congrArg _ (stringOnce_rep hundisturbed none p))
  refine ⟨_, _, _, once, rfl, rfl, fun hz => ⟨fun hnone => ⟨fun htf => ⟨fun hn => ?nmi, fun hn hline hi => ?intr⟩,
    fun htf => ⟨fun hn hi => ?trap, fun hn => ?nmiTrap, fun hn hline hi => ?intrTrap⟩⟩, fun hasked hdue => ?asked⟩⟩
  case asked =>
    obtain ⟨m, hm⟩ := Option.ne_none_iff_exists'.1 hasked
    have hdue : (s.cur.tf0 || s.externalDue) = true := by
      rcases hdue with hn | ⟨hline, hi⟩ | htf
      · rw [externalDue_of_nmi hn, Bool.or_true]
      · rw [externalDue_of_intr hline hi, Bool.or_true]
      · rw [htf, Bool.true_or]
    have hx := exec_stringInstr_of_asked hq hb hs hrep hmore hz hm hdue
    exact ⟨_, hx, hm.symm, rfl, rfl, rfl, rfl, rfl, fun _ _ => rfl, fun _ _ => rfl, hnmi, rfl⟩
  all_goals have taken {v} := exec_stringInstr_of_taken hq hb hs hrep hmore hz hnone (v := v)
  case nmi =>
    obtain ⟨t, ht, -⟩ := takes_nmi hmasters (hnmi.trans hn)
    obtain ⟨hx, hlock, hcleared, hcur⟩ := taken (State.sample_external ht.taken (.inl htf))
    exact ⟨_, hx, ht.entered, hcleared, hlock, hcur⟩
  case intr =>
    obtain ⟨t, ht⟩ := takes_intr hmasters (hnmi.trans hn) (hpins ▸ hline) (hif.trans hi)
    obtain ⟨hx, hlock, hcleared, hcur⟩ := taken (State.sample_external ht.taken (.inl htf))
    exact ⟨_, hx, hpins ▸ ht.entered, hcleared, hlock, hcur⟩
  case trap =>
    obtain ⟨t, ht, hentered, -⟩ := sample_trap_alone hmasters (hnmi.trans hn) (hi.imp (hpins ▸ ·) hif.trans) false
    obtain ⟨hx, hlock, -, hcur⟩ := taken (by rw [htf, ht])
    exact ⟨_, hx, hentered, hlock, hcur⟩
  case nmiTrap =>
    obtain ⟨v, hv, -⟩ := takes_nmi hmasters (hnmi.trans hn)
    obtain ⟨t, ht, hentered, -⟩ := hv.then_trap hmasters
    obtain ⟨hx, -, hcleared, hcur⟩ := taken (by rw [htf, ht])
    exact ⟨v, _, hx, hv.entered, hentered, hcleared, hcur⟩
  case intrTrap =>
    obtain ⟨v, hv⟩ := takes_intr hmasters (hnmi.trans hn) (hpins ▸ hline) (hif.trans hi)
    obtain ⟨t, ht, hentered, -⟩ := hv.then_trap hmasters
    obtain ⟨hx, -, -, hcur⟩ := taken (by rw [htf, ht])
    exact ⟨v, _, hx, hpins ▸ hv.entered, hentered, hcur⟩

end Sys2Proof.Proofs
end

section
/-! PROOFS. Jumps, loops and software interrupts (spec/44_control_transfer.md R214 to R242): where a transfer goes and
what it leaves alone; obligations O33, O35, O36 and O39. -/
namespace Sys2Proof.Proofs
open Sys2Proof Sys2Proof.Machine

/-! ### Control transfer -/

theorem wentTo_jumpFar (s : State) (base off : Word) : State.wentTo s (s.jumpFar base off) base off := by
  refine ⟨rfl, rfl, ⟨rfl, rfl, rfl⟩, rfl, rfl, fun r _ => ?regs, fun r hr => ?segs,
    ⟨⟨⟨rfl, rfl, rfl, rfl, rfl, rfl, rfl, rfl, rfl, rfl⟩, rfl, rfl, rfl⟩, rfl⟩⟩
  case regs => cases r <;> rfl
  case segs =>
    cases r with
    | cs => exact absurd (List.mem_singleton.2 rfl) hr
    | _ => rfl

/-- An intrasegment transfer stays in its segment (R205). -/
theorem wentTo_jumpNear (s : State) (off : Word) : State.wentTo s (s.jumpNear off) s.cs off := wentTo_jumpFar s s.cs off

/-- The next instruction's offset plus the signed byte, modulo 65536 (R86, R215). -/
theorem ofInt_toNat_add_toInt (v : Word) (b : Byte) : BitVec.ofInt 16 (v.toNat + b.toInt) = v + b.signExtend 16 := by
  rw [BitVec.ofInt_add, BitVec.ofInt_natCast, BitVec.ofNat_toNat, BitVec.setWidth_eq, BitVec.signExtend]

theorem wentTo_jumpShort (s : State) (inc : Byte) :
    State.wentTo s (s.jumpShort inc) s.cs (BitVec.ofInt 16 (s.ip.toNat + inc.toInt)) :=
  ofInt_toNat_add_toInt s.ip inc ▸ wentTo_jumpNear s _

/-! ### JMP -/

/-- Settles O36: two relative jumps, two indirect ones, and one to the address in the instruction. -/
theorem jumpsReachTheirTarget : Obligations.JumpsReachTheirTarget := by
  intro s inc w v e m hs
  simp only [List.forall_mem_cons]
  refine ⟨?near, ?short, ?nearIndirect, ?far, ?farIndirect, List.forall_mem_nil _⟩
  case near => exact ⟨_, rfl, ofNat_toNat_add s.ip w ▸ wentTo_jumpNear s _⟩
  case short => exact ⟨_, rfl, wentTo_jumpShort s inc⟩
  case nearIndirect => exact ⟨_, rfl, wentTo_jumpNear s _⟩
  case far => exact ⟨_, rfl, wentTo_jumpFar s v w⟩
  case farIndirect =>
    refine ⟨s.jumpFar (s.pointerBase m) (s.pointerOff m), ?_, wentTo_jumpFar s _ _⟩
    change execJmpMem32 m s = _
    rw [execJmpMem32, State.busGap_of_undisturbed hs]

/-! ### Jumps on a condition -/

/-- A short jump on a condition, from a state `u` that the instruction has made of `s` (R219, R236): it is taken just
when the condition holds, and else `u` stands. -/
theorem exec_of_jumpIf {s u : State} {i : Instr} {inc : Byte} {c : Bool} {P : Prop}
    (hx : exec i s = .next (u.jumpIf c inc)) (hc : c = true ↔ P) :
    (P → ∃ t, exec i s = .next t ∧ State.wentTo u t u.cs (BitVec.ofInt 16 (u.ip.toNat + inc.toInt))) ∧
      (¬P → exec i s = .next u) := by
  refine ⟨fun hp => ⟨u.jumpShort inc, ?taken, wentTo_jumpShort u inc⟩, fun hp => ?notTaken⟩
  case taken => rw [hx, State.jumpIf, if_pos (hc.2 hp)]
  case notTaken => rw [hx, State.jumpIf, if_neg (mt hc.1 hp)]

/-- Settles O33: each conditional jump tests its condition on the flags, and its neighbour the opposite one. -/
theorem conditionalJumps : Obligations.ConditionalJumps := by
  intro s inc
  have opposite (c : Bool) : (!c) = true ↔ c = false := (Bool.not_eq_true' c).to_iff
  have belowOrEqual : (s.flags.cF || s.flags.zF) = true ↔ s.flags.cF = true ∨ s.flags.zF = true := Bool.or_eq_true_iff
  have above : (!(s.flags.cF || s.flags.zF)) = true ↔ s.flags.cF = false ∧ s.flags.zF = false := by
    rw [opposite, Bool.or_eq_false_iff]
  have less : (s.flags.sF ^^ s.flags.oF) = true ↔ s.flags.sF ≠ s.flags.oF := bne_iff_ne
  have notLess : (!(s.flags.sF ^^ s.flags.oF)) = true ↔ s.flags.sF = s.flags.oF :=
    (opposite _).trans bne_eq_false_iff_eq
  have lessOrEqual : ((s.flags.sF ^^ s.flags.oF) || s.flags.zF) = true ↔
      s.flags.sF ≠ s.flags.oF ∨ s.flags.zF = true := by rw [Bool.or_eq_true, less]
  have greater : (!((s.flags.sF ^^ s.flags.oF) || s.flags.zF)) = true ↔
      s.flags.sF = s.flags.oF ∧ s.flags.zF = false := by rw [Bool.not_or, Bool.and_eq_true, notLess, opposite]
  simp only [List.forall_mem_cons]
  refine ⟨?jo, ?jno, ?jb, ?jnb, ?je, ?jne, ?jbe, ?jnbe, ?js, ?jns, ?jp, ?jnp, ?jl, ?jnl, ?jle, ?jnle,
    List.forall_mem_nil _⟩
  case jo | jb | je | js | jp => exact exec_of_jumpIf rfl .rfl
  case jno | jnb | jne | jns | jnp => exact exec_of_jumpIf rfl (opposite _)
  case jbe => exact exec_of_jumpIf rfl belowOrEqual
  case jnbe => exact exec_of_jumpIf rfl above
  case jl => exact exec_of_jumpIf rfl less
  case jnl => exact exec_of_jumpIf rfl notLess
  case jle => exact exec_of_jumpIf rfl lessOrEqual
  case jnle => exact exec_of_jumpIf rfl greater

/-- CX is tested after it has been decremented (R236): it is then 0 just when it was 1. -/
theorem sub_one_ne_zero_iff (x : Word) : (x - 1 != 0) = true ↔ x ≠ 1 := bne_iff_ne.trans sub_ne_zero

/-- Settles O35: the loops jump from the state with CX decremented, JCXZ from the state itself. -/
theorem loopsCountDown : Obligations.LoopsCountDown := by
  rintro s u inc rfl
  have counted := sub_one_ne_zero_iff s.cx
  refine ⟨?loops, ?jcxz⟩
  case loops =>
    simp only [List.forall_mem_cons]
    refine ⟨?loop, ?loope, ?loopne, List.forall_mem_nil _⟩
    case loop => exact exec_of_jumpIf (u := s.countDown) rfl counted
    case loope => exact exec_of_jumpIf (u := s.countDown) rfl (by rw [Bool.and_eq_true, counted])
    case loopne => exact exec_of_jumpIf (u := s.countDown) rfl (by rw [Bool.and_eq_true, counted, Bool.not_eq_true'])
  case jcxz => exact exec_of_jumpIf rfl beq_iff_eq

/-! ### Software interrupts -/

/-- An interrupt that an instruction raises is the sequence with the next instruction's offset saved, and it is noted
that the instruction raised it (R285, R289). -/
theorem raiseInterrupt_spec {s : State} (h : s.undisturbed) (n : Byte) :
    State.entered s (s.raiseInterrupt n) n s.ip s.flags ∧ State.systemKept s (s.raiseInterrupt n) ∧
      (s.raiseInterrupt n).inhibitInt = s.inhibitInt ∧ (s.raiseInterrupt n).ioIn = s.ioIn ∧
      (s.raiseInterrupt n).cur = { s.cur with swSeq := true, jumped := true } := by
  obtain ⟨hentered, hsystem, hinhibit, hio, hcur⟩ := State.takeInterrupt_spec h n s.ip
  exact ⟨hentered, hsystem, hinhibit, hio, congrArg (fun c : Progress => { c with swSeq := true }) hcur⟩

theorem exec_into (s : State) : exec .into s = .next (if s.flags.oF then s.raiseInterrupt 4 else s) := rfl

/-- Settles O39: all three raise their interrupt, INTO only with OF = 1. -/
theorem softwareInterruptsEnterTheirType : Obligations.SoftwareInterruptsEnterTheirType := by
  refine fun s => ⟨fun hs n => ?raised, fun hof => ?notRaised⟩
  case raised =>
    simp only [List.forall_mem_cons]
    refine ⟨fun _ => ?intIb, fun _ => ?int3, fun (hof : s.flags.oF = true) => ?into, List.forall_mem_nil _⟩
    case intIb => exact ⟨_, rfl, raiseInterrupt_spec hs n⟩
    case int3 => exact ⟨_, rfl, raiseInterrupt_spec hs 3⟩
    case into => exact ⟨_, (exec_into s).trans (by rw [if_pos hof]), raiseInterrupt_spec hs 4⟩
  case notRaised => simp only [exec_into, hof, Bool.false_eq_true, if_false]

end Sys2Proof.Proofs
end

section
/-! PROOFS. Processor control (spec/45_processor_control.md R250 to R263): the instructions that write one flag, and what
STI, HLT, WAIT, ESC and NOP do before their end; obligations O42 and O43. -/
namespace Sys2Proof.Proofs
open Sys2Proof Sys2Proof.Machine

/-! ### One flag -/

/-- Settles O42: each of the six puts one changed flag back among the others. -/
theorem flagInstructionsWriteOneFlag : Obligations.FlagInstructionsWriteOneFlag := by
  intro s
  simp only [List.forall_mem_cons]
  refine ⟨?clc, ?stc, ?cmc, ?cld, ?std, ?cli, List.forall_mem_nil _⟩
  case clc | stc | cmc | cld | std | cli => rfl

/-! ### WAIT -/

theorem waitForTest_of_low {s : State} (h : s.pins.testLow = true) : s.waitForTest = s := if_pos h

/-- TEST* is high: the machine waits, with IP back at the first byte of the WAIT and no trap due (R259, D14). -/
theorem waitForTest_of_high {s : State} (h : s.pins.testLow = false) :
    s.waitForTest = { s with run := .waiting s.ip, ip := s.cur.ip0, cur := { s.cur with tf0 := false } } :=
  if_neg (ne_true_of_eq_false h)

/-! ### ESC -/

/-- A word that is read and discarded is one bus cycle at an even address of an 8086, and else two with the low byte
first (R54, R260). -/
theorem dummyCycles_eq (p : Params) (a b : Nat) : p.dummyCycles a b =
    if p.variant = .i8086 ∧ a % 2 = 0 then [.dummyRead16 a] else [.dummyRead8 b, .dummyRead8 a] := by
  simp only [Params.dummyCycles, wideCycle_iff]

/-- An ESC with a memory operand leaves nothing but the cycles of its read (R260). -/
theorem dummyRead_mem (s : State) (m : MemOp) : s.dummyRead (.mem m) = { s with
    trace := (if s.params.variant = .i8086 ∧ phys (s.segOf m) (s.ea m) % 2 = 0
      then [.dummyRead16 (phys (s.segOf m) (s.ea m))]
      else [.dummyRead8 (phys (s.segOf m) (s.ea m + 1)), .dummyRead8 (phys (s.segOf m) (s.ea m))]) ++ s.trace } := by
  rw [State.dummyRead, dummyCycles_eq]

/-! ### The obligation -/

/-- Settles O43: ESC goes by its operand and WAIT by the pin TEST*; the others do the same in every state. -/
theorem processorControlCompletes : Obligations.ProcessorControlCompletes := by
  intro s x y r m
  refine ⟨?nop, ?sti, ?hlt, ?escReg, ?escMem, ?waitLow, ?waitHigh⟩
  case nop | sti | hlt | escReg => rfl
  case escMem =>
    rintro _ _ rfl rfl
    exact congrArg Host.Outcome.next (dummyRead_mem s m)
  case waitLow => exact fun hlow => congrArg Host.Outcome.next (waitForTest_of_low hlow)
  case waitHigh => exact fun hhigh => congrArg Host.Outcome.next (waitForTest_of_high hhigh)

end Sys2Proof.Proofs
end

section
/-! PROOFS. The interrupts that an instruction raises itself, and the way back (spec/41_arithmetic.md R156, R157;
spec/44_control_transfer.md R240, R243; spec/60_exceptions.md R272, R273): the divide error, and INT followed by IRET;
obligations O14 and O41. -/
namespace Sys2Proof.Proofs
open Sys2Proof Sys2Proof.Machine

/-! ### The divide error -/

/-- A divide error is the type 0 interrupt from the state that differs in the status flags alone, which are undefined
(R272, R273). -/
theorem divideError_spec {s : State} (h : s.undisturbed) : ∃ f, controlKept s.flags f ∧
    State.entered s (s.divideFlags.raiseInterrupt 0) 0 s.ip f ∧
    State.systemKept s (s.divideFlags.raiseInterrupt 0) ∧
    (s.divideFlags.raiseInterrupt 0).inhibitInt = s.inhibitInt ∧ (s.divideFlags.raiseInterrupt 0).ioIn = s.ioIn ∧
    (s.divideFlags.raiseInterrupt 0).cur = { s.cur with swSeq := true, jumped := true } :=
  ⟨s.divideFlags.flags, ⟨rfl, rfl, rfl⟩, raiseInterrupt_spec (s := s.divideFlags) h 0⟩

/-- The dividend DX:AX as a number (R156). -/
theorem toNat_dx_ax (s : State) : (s.dx ++ s.ax).toNat = s.dx.toNat * 65536 + s.ax.toNat := by
  rw [BitVec.toNat_append, ← Nat.shiftLeft_add_eq_or_of_lt s.ax.isLt, Nat.shiftLeft_eq]

theorem div8_of_error {s : State} {b : Byte} (h : b.toNat = 0 ∨ 0xFF < s.ax.toNat / b.toNat) :
    s.div8 b = s.divideFlags.raiseInterrupt 0 := if_pos h

theorem div16_of_error {s : State} {b : Word} (h : b.toNat = 0 ∨ 0xFFFF < (s.dx ++ s.ax).toNat / b.toNat) :
    s.div16 b = s.divideFlags.raiseInterrupt 0 := if_pos (toNat_dx_ax s ▸ h)

/-- The magnitude of a quotient is above a bound if the quotient is above it or below its negative. -/
theorem out_of_range {q : Int} {n : Nat} (h : n < q.natAbs) : (n : Int) < q ∨ q < -n := by omega

theorem idiv8_of_error {s : State} {b : Byte} (h : b.toInt = 0 ∨ 127 < (s.ax.toInt.tdiv b.toInt).natAbs) :
    s.idiv8 b = s.divideFlags.raiseInterrupt 0 := if_pos (h.imp_right out_of_range)

theorem idiv16_of_error {s : State} {b : Word} (h : b.toInt = 0 ∨ 32767 < ((s.dx ++ s.ax).toInt.tdiv b.toInt).natAbs) :
    s.idiv16 b = s.divideFlags.raiseInterrupt 0 := if_pos (h.imp_right out_of_range)

/-- Settles O14: in each of the four forms the quotient that is out of range leads to the divide error. -/
theorem divideErrorEntersTypeZero : Obligations.DivideErrorEntersTypeZero := by
  intro s i hs herror
  have hx : exec i s = .next (s.divideFlags.raiseInterrupt 0) := by
    rcases herror with ⟨e, rfl, h⟩ | ⟨e, rfl, h⟩ | ⟨e, rfl, h⟩ | ⟨e, rfl, h⟩
    · exact congrArg Host.Outcome.next (div8_of_error h)
    · exact congrArg Host.Outcome.next (div16_of_error h)
    · exact congrArg Host.Outcome.next (idiv8_of_error h)
    · exact congrArg Host.Outcome.next (idiv16_of_error h)
  obtain ⟨f, hf, hentered⟩ := divideError_spec hs
  exact ⟨_, f, hx, hf, hentered⟩

/-! ### There and back -/

/-- The six bytes below the stack top, into which an interrupt sequence pushes. -/
def belowTop (s : State) (a : Nat) : Prop := ∃ k : Nat, 0 < k ∧ k ≤ 6 ∧ a = phys s.ss (s.sp - BitVec.ofNat 16 k)

/-- The three words of an interrupt sequence lie in these bytes. -/
theorem belowTop_of_wordBytes {s : State} {k : Nat} (h2 : 2 ≤ k) (h6 : k ≤ 6) {a : Nat}
    (ha : wordBytes s.ss (s.sp - BitVec.ofNat 16 k) a) : belowTop s a := by
  have hnext : s.sp - BitVec.ofNat 16 k + 1 = s.sp - BitVec.ofNat 16 (k - 1) := by
    obtain ⟨j, rfl⟩ := Nat.exists_eq_add_of_le' (Nat.one_le_of_lt h2)
    rw [Nat.add_sub_cancel, BitVec.ofNat_add, sub_add_eq_sub_sub]
    exact sub_add_cancel _ _
  rcases ha with rfl | rfl
  · exact ⟨k, by omega, h6, rfl⟩
  · exact ⟨k - 1, by omega, by omega, by rw [hnext]⟩

/-- What the flags word carries is what it is read as (R23). -/
theorem ofWord_of_carriesFlags {w : Word} {f : Flags} (h : carriesFlags w f) : Flags.ofWord w = f := by
  obtain ⟨hc, hp, ha, hz, hs, ht, hi, hd, ho⟩ := h
  simp only [Flags.ofWord, ← hc, ← hp, ← ha, ← hz, ← hs, ← ht, ← hi, ← hd, ← ho]

/-- IRET finds what an interrupt sequence with a stack in RAM has pushed, and takes it back (R243, R280). -/
theorem returnFromInterrupt_of_entered {s t : State} {n : Byte} {ret : Word} {f : Flags} (ht : t.undisturbed)
    (hlands : s.lands (belowTop s)) (h : State.entered s t n ret f) :
    t.returnFromInterrupt = { t with
      ip := ret
      cs := s.cs
      flags := f
      sp := s.sp
      queue := []
      prefetched := 0
      cur := { t.cur with jumped := true } } := by
  obtain ⟨-, -, hsp, hflags, hcs, hip, -, -, -, -, -, hsegs, -⟩ := h
  have hss : t.ss = s.ss := hsegs .ss (by decide)
  have lands (k : Nat) (h2 : 2 ≤ k) (h6 : k ≤ 6) : s.lands (wordBytes s.ss (s.sp - BitVec.ofNat 16 k)) :=
    fun a ha => hlands a (belowTop_of_wordBytes h2 h6 ha)
  have hsp2 : s.sp - 6 + 4 = s.sp - 2 := by bv_omega
  have hsp4 : s.sp - 6 + 2 = s.sp - 4 := by bv_omega
  have hsp6 : s.sp - 6 + 6 = s.sp := by bv_omega
  obtain ⟨hcarries, -⟩ := hflags (lands 2 le_rfl (by decide))
  rw [State.returnFromInterrupt_eq ht, hss, hsp, hsp2, hsp4, hsp6, hip (lands 6 (by decide) le_rfl),
    hcs (lands 4 (by decide) (by decide)), ofWord_of_carriesFlags hcarries]

theorem exec_intIb (n : Byte) (s : State) : exec (.intIb n) s = .next (s.raiseInterrupt n) := rfl

theorem exec_iret (s : State) : exec .iret s = .next s.returnFromInterrupt := rfl

/-- Settles O41: INT n is the interrupt sequence, and IRET takes back what it pushed; no other register and no other byte
has changed. -/
theorem interruptThenReturnRoundTrip : Obligations.InterruptThenReturnRoundTrip := by
  intro s n hs hlands
  obtain ⟨hentered, hsystem, -⟩ := raiseInterrupt_spec hs n
  have ⟨_, _, _, hlock, _, _, _, _, hmasters, _⟩ := hsystem
  have hback := returnFromInterrupt_of_entered (State.undisturbed_of_eq hs hlock hmasters) hlands hentered
  obtain ⟨-, -, -, -, -, -, -, -, -, -, hregs, hsegs, hmem⟩ := hentered
  refine ⟨_, _, exec_intIb n s, (exec_iret _).trans (congrArg _ hback), rfl, rfl, fun r _ => ?regs, fun r _ => ?segs,
    State.memKept_congr (State.memKept_mono hmem fun a ha => ?below) rfl rfl rfl rfl rfl⟩
  case regs =>
    symm
    cases r with
    | sp => rfl
    | ax | cx | dx | bx | bp | si | di => exact (hregs _ (by decide)).symm
  case segs =>
    symm
    cases r with
    | cs => rfl
    | es | ss | ds => exact (hsegs _ (by decide)).symm
  case below =>
    rcases ha with ha | ha | ha
    · exact belowTop_of_wordBytes le_rfl (by decide) ha
    · exact belowTop_of_wordBytes (by decide) (by decide) ha
    · exact belowTop_of_wordBytes (by decide) le_rfl ha

end Sys2Proof.Proofs
end

section
/-! PROOFS. TF as it was when the instruction began (spec/60_exceptions.md R274): no instruction that goes on running to
its end touches what was noted of it. -/
namespace Sys2Proof.Proofs
open Sys2Proof Sys2Proof.Machine

/-! ### The instruction in progress -/

@[simp] theorem gapEb_cur (s : State) (e : Eb) : (s.gapEb e).cur = s.cur := by
  cases e with
  | reg r => rfl
  | mem m => exact s.busGap_cur

@[simp] theorem gapEv_cur (s : State) (e : Ev) : (s.gapEv e).cur = s.cur := by
  cases e with
  | reg r => rfl
  | mem m => exact s.busGap_cur

@[simp] theorem writeEb_cur (s : State) (e : Eb) (v : Byte) : (s.writeEb e v).cur = s.cur := by
  cases e with
  | reg r => exact s.setReg8_cur r v
  | mem m => rfl

@[simp] theorem writeEv_cur (s : State) (e : Ev) (v : Word) : (s.writeEv e v).cur = s.cur := by
  cases e with
  | reg r => exact s.setReg16_cur r v
  | mem m => rfl

@[simp] theorem rmwEb_cur (s : State) (e : Eb) (op : Byte → Flags → Byte × Flags) : (s.rmwEb e op).cur = s.cur := by
  simp [State.rmwEb]

@[simp] theorem rmwEv_cur (s : State) (e : Ev) (op : Word → Flags → Word × Flags) : (s.rmwEv e op).cur = s.cur := by
  simp [State.rmwEv]

theorem shiftEb_cur (s : State) (op : ShiftOp) (n : Nat) (e : Eb) : (s.shiftEb op n e).cur = s.cur := by
  unfold State.shiftEb
  split <;> simp

theorem shiftEv_cur (s : State) (op : ShiftOp) (n : Nat) (e : Ev) : (s.shiftEv op n e).cur = s.cur := by
  unfold State.shiftEv
  split <;> simp

theorem exchange8_cur (s : State) (r : Reg8) (e : Eb) : (s.exchange8 r e).cur = s.cur := by simp [State.exchange8]

theorem exchange16_cur (s : State) (r : Reg16) (e : Ev) : (s.exchange16 r e).cur = s.cur := by
  simp [State.exchange16]

theorem exchangeAx_cur (s : State) (r : Reg16) : (s.exchangeAx r).cur = s.cur := by simp [State.exchangeAx]

theorem loadPointer_cur (s : State) (r : SReg) (dst : Reg16) (m : MemOp) : (s.loadPointer r dst m).cur = s.cur := by
  simp [State.loadPointer]

theorem loadSeg_cur (s : State) (r : SReg) (v : Word) : (s.loadSeg r v).cur = s.cur := by simp [State.loadSeg]

theorem pushOperand_cur (s : State) (e : Ev) : (s.pushOperand e).cur = s.cur := by
  cases e with
  | reg r => rfl
  | mem m => exact s.busGap_cur

theorem dummyRead_cur (s : State) (e : Ev) : (s.dummyRead e).cur = s.cur := by cases e <;> rfl

@[simp] theorem portAnswered_cur (s : State) : s.portAnswered.cur = s.cur := by
  unfold State.portAnswered
  split <;> rfl

@[simp] theorem ioByteRead_cur (s : State) (port : Word) : (s.ioByteRead port).cur = s.cur := by
  simp [State.ioByteRead]

theorem inByte_cur (s : State) (port : Word) : (s.inByte port).cur = s.cur := by simp [State.inByte]

theorem inWord_cur (s : State) (port : Word) : (s.inWord port).cur = s.cur := by
  simp only [State.inWord, State.ioWordRead]
  split <;> simp

theorem ioWordWrite_cur (s : State) (port v : Word) : (s.ioWordWrite port v).cur = s.cur := by
  unfold State.ioWordWrite
  split <;> rfl

theorem asciiAdjust_cur (s : State) (op : Byte → Byte → Byte) : (s.asciiAdjust op).cur = s.cur := by
  unfold State.asciiAdjust
  dsimp only
  split <;> simp

theorem stringOnce_cur (s : State) (p : Primitive) : (s.stringOnce p).cur = s.cur := by
  cases p <;> simp [State.stringOnce, State.stepSi, State.stepDi, State.flags8, State.flags16]

theorem advance_cur (s : State) (n : Nat) : (s.advance n).cur = s.cur := by
  obtain ⟨k, d, heard, h, -⟩ := s.advance_spec n
  rw [h]

/-! ### Control transfer and interrupts -/

theorem jumpIf_tf0 (s : State) (c : Bool) (inc : Byte) : (s.jumpIf c inc).cur.tf0 = s.cur.tf0 := by
  cases c <;> rfl

theorem jumpNear_tf0 (s : State) (off : Word) : (s.jumpNear off).cur.tf0 = s.cur.tf0 := rfl

theorem jumpFar_tf0 (s : State) (base off : Word) : (s.jumpFar base off).cur.tf0 = s.cur.tf0 := rfl

theorem callFarTo_tf0 (s : State) (base off : Word) : (s.callFarTo base off).cur.tf0 = s.cur.tf0 := by
  simp [State.callFarTo, State.jumpFar, State.jumpNear]

theorem returnFar_tf0 (s : State) (n : Word) : (s.returnFar n).cur.tf0 = s.cur.tf0 := by
  simp [State.returnFar, State.jumpFar, State.jumpNear, State.addSp]

theorem raiseInterrupt_tf0 (s : State) (n : Byte) : (s.raiseInterrupt n).cur.tf0 = s.cur.tf0 := by
  simp [State.raiseInterrupt, State.takeInterrupt, State.jumpFar, State.jumpNear]

theorem returnFromInterrupt_tf0 (s : State) : s.returnFromInterrupt.cur.tf0 = s.cur.tf0 := by
  simp [State.returnFromInterrupt, State.jumpFar, State.jumpNear]

theorem ite_tf0 {s t u : State} {c : Prop} [Decidable c] (ht : t.cur.tf0 = s.cur.tf0) (hu : u.cur.tf0 = s.cur.tf0) :
    (if c then t else u).cur.tf0 = s.cur.tf0 := by
  split
  · exact ht
  · exact hu

/-- A division ends in its result or in the divide error. -/
theorem divide_tf0 (s : State) {u : State} {c : Prop} [Decidable c] (hu : u.cur = s.cur) :
    (if c then s.divideFlags.raiseInterrupt 0 else u).cur.tf0 = s.cur.tf0 :=
  ite_tf0 (raiseInterrupt_tf0 s.divideFlags 0) (congrArg Progress.tf0 hu)

/-! ### Repeated strings -/

theorem awaitBus_cur (n : Nat) (s : State) : (State.awaitBus n s).cur = s.cur := by
  induction n generalizing s with
  | zero => unfold State.awaitBus; split <;> rfl
  | succ n ih =>
    unfold State.awaitBus
    split
    · rfl
    · exact (ih _).trans (Heard.look _).cur

/-- Between two repetitions the instruction is left, or nothing becomes of what was noted of it. -/
theorem sampleRepetition_cur (s : State) : s.sampleRepetition.cur.cut = true ∨ s.sampleRepetition.cur = s.cur := by
  unfold State.sampleRepetition
  dsimp only
  split
  · exact .inl rfl
  · split
    · exact .inl rfl
    · split
      · exact .inl rfl
      · exact .inr rfl

theorem betweenRepetitions_cur (s : State) :
    s.betweenRepetitions.cur.cut = true ∨ s.betweenRepetitions.cur = s.cur := by
  have hawait : (State.awaitBus s.look.outside.length s.look).cur = s.cur :=
    (awaitBus_cur _ _).trans (Heard.look s).cur
  unfold State.betweenRepetitions
  dsimp only
  generalize State.awaitBus s.look.outside.length s.look = t at hawait
  split
  · have hagain := (awaitBus_cur t.outside.length (t.setLock false)).trans hawait
    have left := sampleRepetition_cur (State.awaitBus t.outside.length (t.setLock false))
    split
    next hcut => exact .inl hcut
    next hcut => exact .inr ((left.resolve_left hcut).trans hagain)
  · exact (sampleRepetition_cur t).imp_right (·.trans hawait)

theorem repetitions_cur (p : Primitive) (z : Bool) (n : Nat) (s : State) :
    (State.repetitions p z n s).cur.cut = true ∨ (State.repetitions p z n s).cur = s.cur := by
  induction n generalizing s with
  | zero => exact .inr rfl
  | succ n ih =>
    have once : (s.stringOnce p).countDown.cur = s.cur := stringOnce_cur s p
    unfold State.repetitions
    dsimp only
    split
    · exact .inr once
    · split
      · exact .inr once
      · split
        next hcut => exact .inl hcut
        next hcut =>
          exact (ih _).imp_right (·.trans (((betweenRepetitions_cur _).resolve_left hcut).trans once))

theorem repeatString_cur (s : State) (p : Primitive) :
    (s.repeatString p).cur.cut = true ∨ (s.repeatString p).cur = s.cur := by
  unfold State.repeatString
  split
  · exact .inr (stringOnce_cur s p)
  · exact repetitions_cur p _ _ s

/-! ### The instructions -/

/-- If the CPU goes on running behind the instruction, which has not been left, TF is still noted as it was when it
began. -/
def KeepsTf0 (s : State) (o : Outcome) : Prop :=
  ∀ t, o = .next t → t.run = .running → t.cur.cut = false → t.cur.tf0 = s.cur.tf0

theorem KeepsTf0.of_tf0 {s t : State} (h : t.cur.tf0 = s.cur.tf0) : KeepsTf0 s (.next t) := by
  rintro _ ⟨⟩ _ _
  exact h

theorem KeepsTf0.of_cur {s t : State} (h : t.cur = s.cur) : KeepsTf0 s (.next t) := .of_tf0 (congrArg Progress.tf0 h)

theorem KeepsTf0.refused (s : State) (r : Refusal) : KeepsTf0 s (.refused r) := by
  rintro _ ⟨⟩

theorem KeepsTf0.repeatString (s : State) (p : Primitive) : KeepsTf0 s (.next (s.repeatString p)) := by
  rintro _ ⟨⟩ _ hcut
  exact congrArg Progress.tf0 ((repeatString_cur s p).resolve_left (by simp [hcut]))

/-- A WAIT that forgets the trap begins to wait (R259, D14). -/
theorem KeepsTf0.waitForTest (s : State) : KeepsTf0 s (.next s.waitForTest) := by
  rintro _ ⟨⟩ hrun _
  unfold State.waitForTest at hrun ⊢
  split at hrun
  next hlow => rw [if_pos hlow]
  next => exact nomatch hrun

theorem exec_keepsTf0 (i : Instr) (s : State) : KeepsTf0 s (exec i s) := by
  cases i with
  | addEbGb | addEbIb | addEbIb82 | adcEbGb | adcEbIb | adcEbIb82 | sbbEbGb | sbbEbIb | sbbEbIb82
  | subEbGb | subEbIb | subEbIb82 | addGbEb | addAlIb | adcGbEb | adcAlIb | sbbGbEb | sbbAlIb | subGbEb | subAlIb
  | incEb | decEb | negEb | notEb => exact .of_cur (rmwEb_cur s _ _)
  | addEvGv | addEvIv | addEvIs | adcEvGv | adcEvIv | adcEvIs | sbbEvGv | sbbEvIv | sbbEvIs
  | subEvGv | subEvIv | subEvIs | addGvEv | addAxIv | adcGvEv | adcAxIv | sbbGvEv | sbbAxIv | subGvEv | subAxIv
  | incR16 | decR16 | incEv | decEv | negEv | notEv => exact .of_cur (rmwEv_cur s _ _)
  | orEbGb | orEbIb | andEbGb | andEbIb | xorEbGb | xorEbIb | orGbEb | orAlIb | andGbEb | andAlIb | xorGbEb | xorAlIb =>
    exact .of_cur (rmwEb_cur s.drew _ _)
  | orEvGv | orEvIv | andEvGv | andEvIv | xorEvGv | xorEvIv | orGvEv | orAxIv | andGvEv | andAxIv | xorGvEv | xorAxIv =>
    exact .of_cur (rmwEv_cur s.drew _ _)
  | rolEb1 | rorEb1 | rclEb1 | rcrEb1 | shlEb1 | shrEb1 | sarEb1
  | rolEbCl | rorEbCl | rclEbCl | rcrEbCl | shlEbCl | shrEbCl | sarEbCl => exact .of_cur (shiftEb_cur s _ _ _)
  | rolEv1 | rorEv1 | rclEv1 | rcrEv1 | shlEv1 | shrEv1 | sarEv1
  | rolEvCl | rorEvCl | rclEvCl | rcrEvCl | shlEvCl | shrEvCl | sarEvCl => exact .of_cur (shiftEv_cur s _ _ _)
  | cmpEbGb | cmpEvGv | cmpGbEb | cmpGvEv | cmpAlIb | cmpAxIv | cmpEbIb | cmpEvIv | cmpEbIb82 | cmpEvIs
  | testEbGb | testEvGv | testAlIb | testAxIv | testEbIb | testEvIv
  | cmc | clc | stc | cli | sti | cld | std | sahf | popf
  | mulEb | mulEv | imulEb | imulEv | aam | aad | cbw | cwd | daa | das | movAxMem | movMemAl | movMemAx
  | pushR16 | pushEs | pushCs | pushSs | pushDs | pushf | outIbAl | outDxAl | nop | hlt => exact .of_cur rfl
  | segEs | segCs | segSs | segDs | lock | repne | rep
  | jmpNear | jmpShort | jmpEv | jmpFar | callNear | ret | retPop => exact .of_tf0 rfl
  | movGbEb | movAlMem | movR8Ib | xlat | lahf => exact .of_cur (s.setReg8_cur _ _)
  | movGvEv | movR16Iv | lea => exact .of_cur (s.setReg16_cur _ _)
  | popR16 => exact .of_cur (s.drop16.setReg16_cur _ _)
  | popEv => exact .of_cur ((writeEv_cur _ _ _).trans (gapEv_cur s.drop16 _))
  | popEs | popSs | popDs => exact .of_cur (loadSeg_cur s.drop16 _ _)
  | movEsEv | movSsEv | movDsEv => exact .of_cur (loadSeg_cur s _ _)
  | movEbGb | movEbIb => exact .of_cur (writeEb_cur s _ _)
  | movEvGv | movEvSeg | movEvIv => exact .of_cur (writeEv_cur s _ _)
  | pushEv => exact .of_cur (pushOperand_cur s _)
  | xchgGbEb => exact .of_cur (exchange8_cur s _ _)
  | xchgGvEv => exact .of_cur (exchange16_cur s _ _)
  | xchgAxCx | xchgAxDx | xchgAxBx | xchgAxSp | xchgAxBp | xchgAxSi | xchgAxDi => exact .of_cur (exchangeAx_cur s _)
  | les | lds => exact .of_cur (loadPointer_cur s _ _ _)
  | inAlIb | inAlDx => exact .of_cur (inByte_cur s _)
  | inAxIb | inAxDx => exact .of_cur (inWord_cur s _)
  | outIbAx | outDxAx => exact .of_cur (ioWordWrite_cur s _ _)
  | aaa | aas => exact .of_cur (asciiAdjust_cur s _)
  | divEb | divEv | idivEb | idivEv => exact .of_tf0 (divide_tf0 s rfl)
  | jo | jno | jb | jnb | je | jne | jbe | jnbe | js | jns | jp | jnp | jl | jnl | jle | jnle | jcxz =>
    exact .of_tf0 (jumpIf_tf0 s _ _)
  | loop | loope | loopne => exact .of_tf0 (jumpIf_tf0 s.countDown _ _)
  | jmpMem32 => exact .of_tf0 ((jumpFar_tf0 _ _ _).trans (congrArg Progress.tf0 s.busGap_cur))
  | callEv => exact .of_tf0 ((jumpNear_tf0 _ _).trans (congrArg Progress.tf0 (gapEv_cur s _)))
  | callFar => exact .of_tf0 (callFarTo_tf0 s _ _)
  | callMem32 =>
    exact .of_tf0 ((callFarTo_tf0 _ _ _).trans (congrArg Progress.tf0 (s.busGap.busGap_cur.trans s.busGap_cur)))
  | retf | retfPop => exact .of_tf0 (returnFar_tf0 s _)
  | intIb | int3 => exact .of_tf0 (raiseInterrupt_tf0 s _)
  | into => exact .of_tf0 (ite_tf0 (raiseInterrupt_tf0 s 4) rfl)
  | iret => exact .of_tf0 (returnFromInterrupt_tf0 s)
  | wait => exact .waitForTest s
  | esc => exact .of_cur (dummyRead_cur s _)
  | movsb | movsw | cmpsb | cmpsw | stosb | stosw | lodsb | lodsw | scasb | scasw => exact .repeatString s _
  | _ => exact .refused s _

/-- A prefix notes itself beside TF (R99). -/
theorem exec_prefix_tf0 {i : Instr} {s t : State} (hi : isPrefixByte i = true) (hx : exec i s = .next t) :
    t.cur.tf0 = s.cur.tf0 := by
  unfold isPrefixByte at hi
  split at hi
  case h_8 => contradiction
  all_goals
    cases hx
    rfl

end Sys2Proof.Proofs
end

section
/-! PROOFS. The step of a CPU that has the bus (spec/60_exceptions.md R279, R281, R287, R292, R306;
spec/45_processor_control.md R258, R259): the instruction that the bytes at CS:IP decode to, and the sampling at its end,
in the idle states, and behind a WAIT that ends; obligations O46, O47, O48 and O49. -/
namespace Sys2Proof.Proofs
open Sys2Proof Sys2Proof.Machine

/-! ### One instruction -/

/-- With the bus free and nothing waiting for it, a step goes by the run state alone (R306). -/
theorem step_withBus {s : State} (hq : s.quiet) (hb : s.busFree) (hs : s.settled) (hrun : s.run ≠ .inReset) :
    step s = withBus s :=
  ((Hears.of_quiet hq hb.1 hrun).step_free (State.heldBy_of_busFree hb)).trans
    (by rw [State.regain_of_none hs.1 hs.2.2])

theorem withBus_of_running {s : State} (hs : s.settled) (hrun : s.run = .running) : withBus s = s.runStep := by
  simp only [withBus, hs.2.1, hrun]

theorem step_of_running {s : State} (hq : s.quiet) (hb : s.busFree) (hs : s.settled) (hrun : s.run = .running) :
    step s = s.runStep :=
  (step_withBus hq hb hs (by simp [hrun])).trans (withBus_of_running hs hrun)

theorem runInstr_of_instr {n : Nat} {s t : State} {i : Instr} {rest : List Byte} (hd : decode s.fetchBytes = .instr i rest)
    (hi : isPrefixByte i = false) (hx : exec i (s.advance (6 - rest.length)) = .next t) :
    s.runInstr (n + 1) = .next t := by
  simp only [State.runInstr, hd, hx, hi, Bool.false_eq_true, if_false]

theorem runInstr_of_prefix {n : Nat} {s u : State} {p : Instr} {rest : List Byte}
    (hd : decode s.fetchBytes = .instr p rest) (hp : isPrefixByte p = true)
    (hx : exec p (s.advance (6 - rest.length)) = .next u) : s.runInstr (n + 1) = u.runInstr n := by
  simp only [State.runInstr, hd, hx, hp, if_true]

theorem runInstr_of_refused {n : Nat} {s : State} {i : Instr} {rest : List Byte} {r : Refusal}
    (hd : decode s.fetchBytes = .instr i rest) (hx : exec i (s.advance (6 - rest.length)) = .refused r) :
    s.runInstr (n + 1) = .refused r := by
  simp only [State.runInstr, hd, hx]

/-- Beginning an instruction changes nothing that is fetched (R306 step 3). -/
theorem fetchBytes_begin (s : State) : s.begin.fetchBytes = s.fetchBytes := rfl

theorem runStep_of_next {s t : State} (h : s.begin.runInstr 65536 = .next t) : s.runStep = .next (t.finish s) := by
  simp only [State.runStep, h]

theorem runStep_of_refused {s : State} {r : Refusal} (h : s.begin.runInstr 65536 = .refused r) :
    s.runStep = .refused r := by
  simp only [State.runStep, h]

/-- The instruction with its prefix, if it has one, as the loop over prefixes runs it (R87). -/
theorem runInstr_of_runs {s t : State} {i : Instr} (h : s.runs i t) : s.begin.runInstr 65536 = .next t := by
  obtain ⟨-, -, -, -, hi, ⟨rest, hd, hx⟩ | ⟨p, rest₀, u, rest, hd, hp, hu, hd', hx⟩⟩ := h
  · exact runInstr_of_instr (n := 65535) ((fetchBytes_begin s).symm ▸ hd) hi hx
  · exact (runInstr_of_prefix (n := 65535) ((fetchBytes_begin s).symm ▸ hd) hp hu).trans
      (runInstr_of_instr (n := 65534) hd' hi hx)

theorem step_of_runs {s t : State} {i : Instr} (h : s.runs i t) : step s = .next (t.finish s) := by
  have ⟨hq, hb, hs, hrun, _⟩ := h
  exact (step_of_running hq hb hs hrun).trans (runStep_of_next (runInstr_of_runs h))

theorem exec_of_reserved {i : Instr} {r : Refusal} (h : reservedEncoding i = some r) (s : State) :
    exec i s = .refused r := by
  have hi := reservedEncodingsAreRefusedAndOthersComplete i s
  rwa [h] at hi

/-- Settles O46: the first clause from the loop over prefixes, the second from the refusal of the encoding in every
state. -/
theorem stepRunsTheDecodedInstruction : Obligations.StepRunsTheDecodedInstruction := by
  refine ⟨fun s i t h => step_of_runs h, fun s i rest r hq hb hs hrun hd hr => ?_⟩
  exact (step_of_running hq hb hs hrun).trans
    (runStep_of_refused (runInstr_of_refused (n := 65535) ((fetchBytes_begin s).symm ▸ hd) (exec_of_reserved hr _)))

/-! ### A sampling point -/

theorem takeExternal_takes (s : State) : s.takeExternal.2 = s.externalDue := by
  unfold State.takeExternal State.externalDue
  cases s.nmiPending <;> cases s.pins.intrLine && s.flags.iF <;> rfl

/-- Something is taken, if a trap or an external request is due, whether or not the instruction was itself an interrupt
(R287). -/
theorem sample_takes (s : State) (tf0 seq : Bool) : (s.sample tf0 seq).2 = (tf0 || s.externalDue) := by
  rw [← takeExternal_takes]
  unfold State.sample
  dsimp only
  cases tf0 with
  | false => rfl
  | true =>
    split
    next => rfl
    next hdropped =>
      have htaken : seq = true ∧ s.takeExternal.2 = true := by simpa using hdropped
      rw [htaken.2, Bool.true_or]

/-- What is sampled in `v` when nobody asks for the bus, with `r` the state in which a request is served and `w` the one
after the sampling: a trap alone, a request alone, or a request and then the trap (R276, R281, R287). -/
structure Sampled (v r w : State) (tf0 seq : Bool) : Prop where
  trap : tf0 = true → v.nmiPending = false → v.pins.intrLine = false ∨ v.flags.iF = false →
    State.entered (v.setLock false) w 1 v.ip v.flags
  nmi : tf0 = false ∨ seq = true → v.nmiPending = true →
    State.entered (r.setLock false) w 2 v.ip v.flags ∧ w.nmiPending = false ∧ w.lock = false
  intr : tf0 = false ∨ seq = true → v.nmiPending = false → v.pins.intrLine = true → v.flags.iF = true →
    State.entered (r.afterInta v.pins.intrType) w v.pins.intrType v.ip v.flags ∧ w.lock = false
  nmiTrap : tf0 = true → seq = false → v.nmiPending = true →
    ∃ u, State.entered (r.setLock false) u 2 v.ip v.flags ∧ State.entered u w 1 u.ip u.flags ∧ w.nmiPending = false
  intrTrap : tf0 = true → seq = false → v.nmiPending = false → v.pins.intrLine = true → v.flags.iF = true →
    ∃ u, State.entered (r.afterInta v.pins.intrType) u v.pins.intrType v.ip v.flags ∧ State.entered u w 1 u.ip u.flags

section
variable {v : State} {tf0 seq : Bool}

/-- Nobody asks for the bus and an external request is due: it is sampled from where a WAIT has been read again (R292). -/
theorem sampleAfterHold_of_due (hnone : v.busRequest = none) (hdue : v.externalDue = true) :
    v.sampleAfterHold tf0 seq = ((refetch v).sample tf0 seq).1 := by
  rw [State.sampleAfterHold_of_unasked hnone, refetchWait_of_due hdue]

theorem sampleAfterHold_of_not_due (hnone : v.busRequest = none) (hdue : v.externalDue = false) :
    v.sampleAfterHold tf0 seq = (v.sample tf0 seq).1 := by
  rw [State.sampleAfterHold_of_unasked hnone, State.refetchWait_of_not_due hdue]

/-- Nothing is due: the sampling leaves the state as it is, whoever asks for the bus. -/
theorem sampleAfterHold_of_unrequested (hn : v.nmiPending = false) (hi : v.pins.intrLine = false ∨ v.flags.iF = false) :
    v.sampleAfterHold false seq = v := by
  unfold State.sampleAfterHold
  dsimp only
  rw [State.refetchWait_of_not_due (externalDue_eq_false hn hi), State.sample_of_unrequested hn hi]
  rfl

theorem externalDue_refetchWait (s : State) : s.refetchWait.externalDue = s.externalDue := by
  obtain ⟨k, d, heard, h⟩ := s.refetchWait_spec
  rw [h]
  rfl

/-- What is due while another master asks for the bus waits for it (R62, R279). -/
theorem sampleAfterHold_of_putOff (hasked : v.busRequest ≠ none)
    (hdue : tf0 = true ∨ v.nmiPending = true ∨ (v.pins.intrLine = true ∧ v.flags.iF = true)) :
    v.sampleAfterHold tf0 seq = { v.setLock false with
      unsampled := some { tf0 := tf0, seq := seq, resume := v.ip, relock := v.lock } } := by
  have hdue : (tf0 || v.externalDue) = true := by simpa [State.externalDue] using hdue
  unfold State.sampleAfterHold
  dsimp only
  rw [sample_takes, externalDue_refetchWait, hdue, Option.isSome_iff_ne_none.2 hasked]
  rfl

theorem sampleAfterHold_sampled (hm : v.masters = []) (hnone : v.busRequest = none) :
    Sampled v (refetch v) (v.sampleAfterHold tf0 seq) tf0 seq := by
  obtain ⟨hip, hflags, hnmi, hpins, hmasters⟩ := refetch_same v
  have hmasters := hmasters.trans hm
  refine ⟨fun ht hn hi => ?trap, fun ht hn => ?nmi, fun ht hn hline hif => ?intr, fun ht hs hn => ?nmiTrap,
    fun ht hs hn hline hif => ?intrTrap⟩
  case trap =>
    obtain ⟨t, hsample, hentered, -⟩ := sample_trap_alone hm hn hi seq
    rwa [sampleAfterHold_of_not_due hnone (externalDue_eq_false hn hi), ht, hsample]
  all_goals
    have hdue : v.externalDue = true := by simp [State.externalDue, *]
    rw [sampleAfterHold_of_due hnone hdue, ← hip, ← hflags]
  case nmi =>
    obtain ⟨t, takes, hcleared⟩ := takes_nmi hmasters (hnmi.trans hn)
    rw [State.sample_external takes.taken ht]
    exact ⟨takes.entered, hcleared, takes.lock⟩
  case intr =>
    obtain ⟨t, takes⟩ := takes_intr hmasters (hnmi.trans hn) (hpins ▸ hline) (hflags ▸ hif)
    rw [State.sample_external takes.taken ht, ← hpins]
    exact ⟨takes.entered, takes.lock⟩
  case nmiTrap =>
    obtain ⟨u, takes, hcleared⟩ := takes_nmi hmasters (hnmi.trans hn)
    obtain ⟨t, hsample, htrap, hkept, -⟩ := takes.then_trap hmasters
    rw [ht, hs, hsample]
    exact ⟨u, takes.entered, htrap, hkept.trans hcleared⟩
  case intrTrap =>
    obtain ⟨u, takes⟩ := takes_intr hmasters (hnmi.trans hn) (hpins ▸ hline) (hflags ▸ hif)
    obtain ⟨t, hsample, htrap, -⟩ := takes.then_trap hmasters
    rw [ht, hs, hsample, ← hpins]
    exact ⟨u, takes.entered, htrap⟩

theorem sampleAfterHold_inhibitInt : (v.sampleAfterHold tf0 seq).inhibitInt = v.inhibitInt := by
  unfold State.sampleAfterHold
  dsimp only
  split
  · rfl
  · rcases refetchWait_sample_cases v tf0 seq with h | ⟨-, h, -⟩
    · rw [h]
    · exact h

end

/-! ### The idle states -/

/-- Between instructions nothing is in progress, so that to say so changes nothing. -/
theorem cur_idle_of_idle {s : State} (h : s.cur = .idle) : ({ s with cur := .idle } : State) = s := by rw [← h]

/-- A CPU that is halted, or waits with TEST* high, does nothing but sample (R258, R259). -/
theorem step_of_idle {s : State} (hq : s.quiet) (hb : s.busFree) (hs : s.settled)
    (hidle : s.run = .halted ∨ ∃ next, s.run = .waiting next ∧ s.pins.testLow = false) :
    step s = .next { s.sampleAfterHold false false with cur := .idle } := by
  rcases hidle with hrun | ⟨next, hrun, htest⟩
  · rw [step_withBus hq hb hs (by simp [hrun])]
    simp only [withBus, hs.2.1, hrun, State.idleHalt]
  · rw [step_withBus hq hb hs (by simp [hrun])]
    simp only [withBus, hs.2.1, hrun, State.idleWait, htest, Bool.false_eq_true, if_false]

/-- Settles O48: the step samples without a trap, from where a WAIT has been read again. -/
theorem haltedAndWaitingSteps : Obligations.HaltedAndWaitingSteps := by
  rintro s _ hq hb hs hcur rfl hidle
  rw [step_of_idle hq hb hs hidle]
  refine ⟨fun hnone => ⟨refetch s, refetched_refetch s, ?sampled⟩, fun hasked hdue => ?putOff, fun hn hi => ?nothing⟩
  case sampled =>
    have sampled := sampleAfterHold_sampled (tf0 := false) (seq := false) hq.2 hnone
    exact ⟨fun hn => ⟨_, rfl, sampled.nmi (.inl rfl) hn⟩,
      fun hn hline hif => ⟨_, rfl, sampled.intr (.inl rfl) hn hline hif⟩⟩
  case putOff =>
    rw [sampleAfterHold_of_putOff hasked (.inr hdue)]
    exact congrArg Host.Outcome.next (cur_idle_of_idle hcur)
  case nothing =>
    rw [sampleAfterHold_of_unrequested hn hi]
    exact congrArg Host.Outcome.next (cur_idle_of_idle hcur)

/-- TEST* is low for a WAIT that waits: the sampling is that behind it (R259, R287). -/
theorem step_of_wait_ends {s : State} {next : Word} (hq : s.quiet) (hb : s.busFree) (hs : s.settled)
    (hrun : s.run = .waiting next) (htest : s.pins.testLow = true) : step s = .next
      { ({ s.setLock false with run := .running, ip := next } : State).sampleAfterHold s.flags.tF false with
        cur := .idle } := by
  rw [step_withBus hq hb hs (by simp [hrun])]
  simp only [withBus, hs.2.1, hrun, State.idleWait, htest, if_true, State.endWait]

/-- Settles O49: the step samples behind the WAIT, with the trap that TF makes due. -/
theorem waitEndsWhenTestIsLow : Obligations.WaitEndsWhenTestIsLow := by
  intro s b next hq hb hs hcur hrun htest hbehind
  have ⟨hip, hflags, hnmi, hpins, hrequest, hmasters, hlock, hrunning, hidle⟩ : b.ip = next ∧ b.flags = s.flags ∧
      b.nmiPending = s.nmiPending ∧ b.pins = s.pins ∧ b.busRequest = s.busRequest ∧ b.masters = s.masters ∧
      b.lock = false ∧ b.run = .running ∧ b.cur = s.cur := by
    rw [hbehind]
    exact ⟨rfl, rfl, rfl, rfl, rfl, rfl, rfl, rfl, rfl⟩
  rw [step_of_wait_ends hq hb hs hrun htest, ← hbehind, ← hflags, ← hnmi, ← hpins, ← hrequest, ← hip]
  have idle (o : Option Sampling) :
      (.next { b with unsampled := o, cur := .idle } : Outcome) = .next { b with unsampled := o } :=
    congrArg _ (cur_idle_of_idle (s := { b with unsampled := o }) (hidle.trans hcur))
  refine ⟨fun htf hn hi => ?nothing, fun hnone => ?sampled, fun hasked hdue => ?putOff⟩
  case nothing =>
    rw [htf, sampleAfterHold_of_unrequested hn hi]
    exact idle b.unsampled
  case putOff =>
    have hdue : (b.flags.tF || b.externalDue) = true := by simpa [State.externalDue] using hdue
    rw [sampleAfterHold_of_asked hrunning hlock hasked, if_pos hdue]
    exact idle _
  case sampled =>
    have sampled := sampleAfterHold_sampled (tf0 := b.flags.tF) (seq := false) (hmasters.trans hq.2) hnone
    have same : b.setLock false = b := State.setLock_of_eq hlock
    rw [refetch_of_not_waiting (by simp [hrunning])] at sampled
    obtain ⟨trap, nmi, intr, nmiTrap, intrTrap⟩ := sampled
    rw [same] at trap nmi nmiTrap
    refine ⟨fun htf => ⟨fun hn => ⟨_, rfl, ?nmi⟩,
        fun hn hline hif => ⟨_, rfl, (intr (.inl htf) hn hline hif).1⟩⟩,
      fun htf => ⟨fun hn hi => ⟨_, rfl, trap htf hn hi⟩, fun hn => ?nmiTrap, fun hn hline hif => ?intrTrap⟩⟩
    case nmi =>
      obtain ⟨hentered, hcleared, -⟩ := nmi (.inl htf) hn
      exact ⟨hentered, hcleared⟩
    case nmiTrap =>
      obtain ⟨u, hentered, htrap, hcleared⟩ := nmiTrap htf rfl hn
      exact ⟨u, _, rfl, hentered, htrap, hcleared⟩
    case intrTrap =>
      obtain ⟨u, hentered, htrap⟩ := intrTrap htf rfl hn hline hif
      exact ⟨u, _, rfl, hentered, htrap⟩

/-! ### The end of an instruction -/

/-- The instruction that a running machine begins notes TF, and keeps it noted unless it begins to wait or is left (R274). -/
theorem tf0_of_runs {s t : State} {i : Instr} (h : s.runs i t) (hrun : t.run = .running) (hcut : t.cur.cut = false) :
    t.cur.tf0 = s.flags.tF := by
  have advance (s : State) (n : Nat) : (s.advance n).cur.tf0 = s.cur.tf0 := congrArg Progress.tf0 (advance_cur s n)
  obtain ⟨-, -, -, -, -, ⟨rest, -, hx⟩ | ⟨p, rest₀, u, rest, -, hp, hu, -, hx⟩⟩ := h
  · exact (exec_keepsTf0 i _ t hx hrun hcut).trans (advance s.begin _)
  · have hprefix := (exec_prefix_tf0 hp hu).trans (advance s.begin _)
    exact ((exec_keepsTf0 i _ t hx hrun hcut).trans (advance u _)).trans hprefix

/-- `b` with another queue and another count of what has been read and drawn, which is all that the end of an instruction
leaves open. -/
def withQueue (b : State) (q : List (Option Byte)) (k d : Nat) : State :=
  { b with queue := q, prefetched := k, drawn := d }

/-- What a sampling finds of the state `t` that an instruction has left, with `b` the one after its lock has ended. -/
structure LeftTo (t b v : State) : Prop where
  ip : v.ip = t.ip
  flags : v.flags = t.flags
  mem : v.mem = t.mem
  nmiPending : v.nmiPending = t.nmiPending
  inhibitInt : v.inhibitInt = t.inhibitInt
  pins : v.pins = t.pins
  busRequest : v.busRequest = t.busRequest
  masters : v.masters = t.masters
  run : v.run = t.run
  lock : v.lock = b.lock
  trace : v.trace = b.trace
  unlockedTrace : (v.setLock false).trace = (b.setLock false).trace
  regs : State.regsKept t v []
  segs : State.segsKept t v []

theorem leftTo_withQueue (t : State) (on : Bool) (q : List (Option Byte)) (k d : Nat) :
    LeftTo t (t.setLock on) (withQueue (t.setLock on) q k d) :=
  ⟨rfl, rfl, rfl, rfl, rfl, rfl, rfl, rfl, rfl, rfl, rfl, rfl, fun _ _ => rfl, fun _ _ => rfl⟩

/-- A WAIT is read again from its first byte, whatever of it was in the queue (R292). -/
theorem refetch_withQueue (b : State) (q : List (Option Byte)) (k d : Nat) : ∃ r, State.refetched b r ∧
    ∃ q' k' d', refetch (withQueue b q k d) = withQueue r q' k' d' := by
  by_cases hwait : ∃ next, b.run = .waiting next
  · obtain ⟨next, hrun⟩ := hwait
    obtain ⟨n, heard, hn, hsame, hdevice, hbytes, hkinds⟩ :=
      fetched_prefetch (s := withQueue b q 0 d) (Nat.zero_le _) (next - b.ip).toNat
    rw [refetch_of_waiting (s := withQueue b q k d) hrun]
    refine ⟨{ b with
      prefetched := ((withQueue b q 0 d).prefetch (next - b.ip).toNat).prefetched
      drawn := ((withQueue b q 0 d).prefetch (next - b.ip).toNat).drawn
      trace := heard ++ b.trace }, ?_, q, _, _, hsame⟩
    simp only [State.refetched, hrun]
    exact ⟨n, heard, hn, rfl, hdevice, hbytes, hkinds⟩
  · have hnot := not_exists.1 hwait
    have hr := refetched_refetch b
    rw [refetch_of_not_waiting hnot] at hr
    exact ⟨b, hr, q, k, d, refetch_of_not_waiting hnot⟩

/-- The lock ends with an instruction that has not been left, but for a locked HLT or WAIT that idles (R59, R258, R262). -/
theorem lockAfter_of_not_cut {t : State} (hcut : t.cur.cut = false) : t.lockAfter = (t.lock && t.run != .running) := by
  simp [State.lockAfter, hcut]

/-- The end of an instruction that has not been left, on a quiet platform: it holds interrupts off, or is a sampling point
(R279, R306). -/
theorem endPoint_of_not_cut {v : State} (hq : v.quiet) (hreset : v.resetAsked = false) (hcut : v.cur.cut = false) :
    endPoint v = if v.inhibitInt then { v with inhibitInt := false } else v.sampleAfterHold v.cur.tf0 v.cur.swSeq := by
  simp only [endPoint, hcut, State.hear_of_quiet hq, State.sampleEnd, hreset, Bool.false_eq_true, if_false]

/-- Before that the queue is discarded or kept, and the lock ends (R57, R58, R59). -/
theorem finish_of_not_cut {t : State} (before : State) (hq : t.quiet) (hreset : t.resetAsked = false)
    (hcut : t.cur.cut = false) : ∃ q k d v, v = withQueue (t.setLock (t.lock && t.run != .running)) q k d ∧
      t.finish before = { (if t.inhibitInt then { v with inhibitInt := false }
        else v.sampleAfterHold t.cur.tf0 t.cur.swSeq) with cur := .idle } := by
  obtain ⟨q, k, d, he, -⟩ := endQueue_spec t before
  refine ⟨q, k, d, _, rfl, ?_⟩
  rw [finish_eq, he, lockAfter_of_not_cut (t := { t with queue := q, prefetched := k, drawn := d }) hcut]
  exact congrArg (fun u : State => { u with cur := .idle })
    (endPoint_of_not_cut (v := withQueue (t.setLock (t.lock && t.run != .running)) q k d) hq hreset hcut)

/-- Settles O47: behind the instruction nothing is sampled while it holds interrupts off, and else what is due; what the
instruction left is what the sampling finds, but for the queue, the free values and the lock. -/
theorem interruptsAtTheEndOfAnInstruction : Obligations.InterruptsAtTheEndOfAnInstruction := by
  rintro s i t _ hruns hq hreset hcut rfl
  obtain ⟨q, k, d, v, hv, hfinish⟩ := finish_of_not_cut s hq hreset hcut
  obtain ⟨r, hr, q', k', d', hrefetch⟩ := refetch_withQueue (t.setLock (t.lock && t.run != .running)) q k d
  have htf0 : t.run = .running → t.cur.tf0 = s.flags.tF := fun hrun => tf0_of_runs hruns hrun hcut
  refine ⟨_, r, (step_of_runs hruns).trans (congrArg _ hfinish), hr, ?_⟩
  have left := leftTo_withQueue t (t.lock && t.run != .running) q k d
  rw [← hv] at hrefetch left
  cases hi : t.inhibitInt with
  | true =>
    rw [if_pos rfl]
    exact ⟨rfl, rfl, htf0, fun _ => ⟨left.ip, left.flags, left.mem, left.nmiPending, left.trace, left.lock, left.run,
      left.regs, left.segs⟩, nofun, nofun⟩
  | false =>
    rw [if_neg Bool.false_ne_true, State.unrequested, ← left.flags, ← left.nmiPending, ← left.pins,
      ← left.busRequest]
    refine ⟨sampleAfterHold_inhibitInt.trans (left.inhibitInt.trans hi), rfl, htf0, ?unrequested,
      fun _ hnone => ?sampled, fun _ hasked hdue => ?putOff⟩
    case unrequested =>
      rintro (h | ⟨hn, hint, htf⟩)
      · contradiction
      · rw [htf, sampleAfterHold_of_unrequested hn hint]
        exact ⟨left.ip, rfl, left.mem, rfl, left.trace, left.lock, left.run, left.regs, left.segs⟩
    case putOff =>
      rw [sampleAfterHold_of_putOff hasked hdue, ← left.ip, ← left.lock]
      exact ⟨rfl, rfl, left.unlockedTrace, rfl, rfl, left.mem, rfl, left.run, left.regs, left.segs⟩
    case sampled =>
      have sampled := sampleAfterHold_sampled (tf0 := t.cur.tf0) (seq := t.cur.swSeq) (left.masters.trans hq.2) hnone
      rw [hrefetch] at sampled
      subst hv
      refine ⟨sampled.trap, fun ht => ⟨fun hn => ?nmi, fun hn hline hif => (sampled.intr ht hn hline hif).1⟩,
        fun ht hseq => ⟨fun hn => ?nmiTrap, sampled.intrTrap ht hseq⟩⟩
      case nmi =>
        obtain ⟨hentered, hcleared, -⟩ := sampled.nmi ht hn
        exact ⟨hentered, hcleared⟩
      case nmiTrap =>
        obtain ⟨u, hentered, htrap, -⟩ := sampled.nmiTrap ht hseq hn
        exact ⟨u, hentered, htrap⟩

end Sys2Proof.Proofs
end

section
/-! PROOFS. Compare, increment, decrement and negate (spec/41_arithmetic.md R143, R148 to R150, R159, R160): CMP is SUBW
without its result, NEG is SUBW from 0, INC and DEC are ADDW and SUBW of 1 with CF put back; what the conditional jumps
find after CMP (spec/44_control_transfer.md R219 to R235); obligations O3, O4, O5, O10 and O34. -/
namespace Sys2Proof.Proofs
open Sys2Proof Sys2Proof.Machine

/-! ### CMP -/

/-- An instruction that is SUBW of two words without its result gives the six flags of their difference (R150). -/
theorem givesFlags_of_subOp16 {s : State} {i : Instr} {a b : Word} (hx : exec i s = .next (s.flags16 subOp a b)) :
    s.givesFlags i (flagsOfDifference a b false s.flags) :=
  State.givesFlags_of_setFlags hx (subW_flags16 false a b s.flags)

/-- As `givesFlags_of_subOp16`, for two bytes. -/
theorem givesFlags_of_subOp8 {s : State} {i : Instr} {a b : Byte} (hx : exec i s = .next (s.flags8 subOp a b)) :
    s.givesFlags i (flagsOfDifference a b false s.flags) :=
  State.givesFlags_of_setFlags hx (subW_flags8 false a b s.flags)

/-- Settles O3: every form is SUBW on its two operands, without its result. -/
theorem compareSetsFlagsOnly : Obligations.CompareSetsFlagsOnly := by
  refine fun s => ⟨fun e r imm i8 q hq => givesFlags_of_subOp16 ?words,
    fun e r imm q hq => givesFlags_of_subOp8 ?bytes⟩ <;> revert q
  case words =>
    simp only [List.forall_mem_cons]
    exact ⟨rfl, rfl, rfl, rfl, rfl, List.forall_mem_nil _⟩
  case bytes =>
    simp only [List.forall_mem_cons]
    exact ⟨rfl, rfl, rfl, rfl, rfl, List.forall_mem_nil _⟩

/-! ### An operation on one operand -/

/-- An instruction that is a read-modify-write of its 16-bit operand gives the result and the flags of the operation
(R84). -/
theorem givesWord_of_rmwEv {s : State} (h : s.undisturbed) {i : Instr} {e : Ev} {op : Word → Flags → Word × Flags}
    {v : Word} {P : Flags → Prop} (hx : exec i s = .next (s.rmwEv e op)) (hv : (op (s.readEv e) s.flags).1 = v)
    (hP : P (op (s.readEv e) s.flags).2) : s.givesWord i e v P :=
  State.givesWord_of_aluEv h (b := 0) (op := fun a _ f => op a f) hx hv hP

/-- As `givesWord_of_rmwEv`, for an 8-bit operand. -/
theorem givesByte_of_rmwEb {s : State} (h : s.undisturbed) {i : Instr} {e : Eb} {op : Byte → Flags → Byte × Flags}
    {v : Byte} {P : Flags → Prop} (hx : exec i s = .next (s.rmwEb e op)) (hv : (op (s.readEb e) s.flags).1 = v)
    (hP : P (op (s.readEb e) s.flags).2) : s.givesByte i e v P :=
  State.givesByte_of_aluEb h (b := 0) (op := fun a _ f => op a f) hx hv hP

/-! ### INC and DEC -/

/-- The flags `f` are those of which `P` speaks, but for CF, which is that of `old` (R143, R148). -/
def ButCarry (P : Flags → Prop) (old f : Flags) : Prop := f.cF = old.cF ∧ ∃ c, P { f with cF := c }

/-- What keeps CF and otherwise has the flags `g`, of which `P` holds. -/
theorem butCarry_of {P : Flags → Prop} {g : Flags} (old : Flags) (h : P g) :
    ButCarry P old { g with cF := old.cF } := ⟨rfl, g.cF, h⟩

/-- INC is ADDW of 1 with the old CF (R143). -/
theorem givesWord_inc {s : State} (h : s.undisturbed) {i : Instr} {e : Ev} (hx : exec i s = .next (s.rmwEv e incOp)) :
    s.givesWord i e (s.readEv e + 1) (ButCarry (flagsOfSum (s.readEv e) 1 false s.flags) s.flags) :=
  givesWord_of_rmwEv h hx ((addW_fst16 false _ _ s.flags).trans (BitVec.add_zero _))
    (butCarry_of _ (addW_flags16 false _ 1 _))

/-- DEC is SUBW of 1 with the old CF (R148). -/
theorem givesWord_dec {s : State} (h : s.undisturbed) {i : Instr} {e : Ev} (hx : exec i s = .next (s.rmwEv e decOp)) :
    s.givesWord i e (s.readEv e - 1) (ButCarry (flagsOfDifference (s.readEv e) 1 false s.flags) s.flags) :=
  givesWord_of_rmwEv h hx ((subW_fst16 false _ _ s.flags).trans (BitVec.sub_zero _))
    (butCarry_of _ (subW_flags16 false _ 1 _))

theorem givesByte_inc {s : State} (h : s.undisturbed) (e : Eb) :
    s.givesByte (.incEb e) e (s.readEb e + 1) (ButCarry (flagsOfSum (s.readEb e) 1 false s.flags) s.flags) :=
  givesByte_of_rmwEb h rfl ((addW_fst8 false _ _ s.flags).trans (BitVec.add_zero _))
    (butCarry_of _ (addW_flags8 false _ 1 _))

theorem givesByte_dec {s : State} (h : s.undisturbed) (e : Eb) :
    s.givesByte (.decEb e) e (s.readEb e - 1) (ButCarry (flagsOfDifference (s.readEb e) 1 false s.flags) s.flags) :=
  givesByte_of_rmwEb h rfl ((subW_fst8 false _ _ s.flags).trans (BitVec.sub_zero _))
    (butCarry_of _ (subW_flags8 false _ 1 _))

/-- Settles O4: both forms on words and the one on bytes. -/
theorem incAndDecKeepCarry : Obligations.IncAndDecKeepCarry := by
  refine fun s hs => ⟨fun e r => ⟨?inc, ?dec⟩, fun e => ⟨givesByte_inc hs e, givesByte_dec hs e⟩⟩ <;>
    simp only [List.forall_mem_cons]
  case inc => exact ⟨givesWord_inc hs rfl, givesWord_inc hs rfl, List.forall_mem_nil _⟩
  case dec => exact ⟨givesWord_dec hs rfl, givesWord_dec hs rfl, List.forall_mem_nil _⟩

/-! ### NEG -/

/-- Nothing is borrowed from 0 exactly when 0 is subtracted (R149). -/
theorem no_borrow_from_zero_iff {w : Nat} {a : BitVec w} {old f : Flags} (h : flagsOfDifference 0 a false old f) :
    f.cF = false ↔ a = 0 := by
  obtain ⟨hborrow, -⟩ := h
  rw [← Bool.not_eq_true, hborrow, BitVec.toNat_eq]
  simp

/-- Settles O5: NEG is SUBW of its operand from 0. -/
theorem negateGivesTwosComplement : Obligations.NegateGivesTwosComplement := by
  refine fun s hs => ⟨fun e => ?word, fun e => ?byte⟩
  case word =>
    have hflags := subW_flags16 false 0 (s.readEv e) s.flags
    exact givesWord_of_rmwEv hs rfl ((subW_fst16 false _ _ s.flags).trans (by simp [carryOf]))
      ⟨hflags, no_borrow_from_zero_iff hflags⟩
  case byte =>
    have hflags := subW_flags8 false 0 (s.readEb e) s.flags
    exact givesByte_of_rmwEb hs rfl ((subW_fst8 false _ _ s.flags).trans (by simp [carryOf]))
      ⟨hflags, no_borrow_from_zero_iff hflags⟩

/-! ### CBW and CWD -/

/-- The upper half of a sign-extended word is its sign, sixteen times (R160). -/
theorem high_signExtend (v : Word) :
    (v.signExtend 32).extractLsb' 16 16 = if v.msb then 0xFFFF else 0 := by
  have hall : (0xFFFF : Word) = BitVec.allOnes 16 := rfl
  ext i hi
  rw [BitVec.getElem_extractLsb', BitVec.getLsbD_signExtend]
  cases v.msb with
  | false => simp
  | true =>
    rw [if_pos rfl, hall, BitVec.getElem_allOnes]
    simp
    omega

/-- Settles O10: each writes the sign extension to its register and does nothing else. -/
theorem conversionsExtendTheSign : Obligations.ConversionsExtendTheSign :=
  fun s => ⟨givesWord_of_writeEv rfl, high_signExtend s.ax ▸ givesWord_of_writeEv rfl⟩

/-! ### Jumps after CMP -/

/-- The flags of a difference, read as the conditional jumps read them: `a` and `b` are equal, or in order as unsigned
or as signed numbers (R219 to R235). -/
theorem order_of_flagsOfDifference {a b : Word} {old f : Flags} (h : flagsOfDifference a b false old f) :
    (f.zF = true ↔ a = b) ∧ (f.cF = true ↔ a.toNat < b.toNat) ∧ ((f.sF ^^ f.oF) = true ↔ a.toInt < b.toInt) := by
  obtain ⟨hc, -, ho, ⟨hs, hz, -⟩, -⟩ := h
  have hzero : carryOf 16 false = 0 := rfl
  rw [hzero, sub_zero] at hs hz
  refine ⟨hz.trans sub_eq_zero, hc, ?_⟩
  have hsign : f.sF = true ↔ 32768 ≤ (a - b).toNat := by rw [hs, ← msb_true_iff16, BitVec.msb_eq_getLsbD_last]
  simp only [fitsSigned] at ho
  rw [bne_iff_ne, ne_eq, Bool.eq_iff_iff, hsign, ho]
  simp only [BitVec.toInt_eq_toNat_cond, BitVec.toNat_sub, Bool.toNat_false]
  have := a.isLt
  have := b.isLt
  omega

/-- A conditional jump is taken just when its condition holds, to the signed distance (R86, R219). -/
theorem jumpIf_reaches {t : State} {i : Instr} {inc : Byte} {c : Bool} {P : Prop}
    (hx : exec i t = .next (t.jumpIf c inc)) (hc : c = true ↔ P) :
    (P → ∃ u, exec i t = .next u ∧ u.ip = t.ip + inc.signExtend 16) ∧ (¬P → exec i t = .next t) := by
  obtain ⟨taken, notTaken⟩ := exec_of_jumpIf hx hc
  refine ⟨fun hp => ?_, notTaken⟩
  obtain ⟨u, hu, -, hip, -⟩ := taken hp
  exact ⟨u, hu, hip.trans (ofInt_toNat_add_toInt t.ip inc)⟩

theorem not_eq_true_iff_not {c : Bool} {P : Prop} (h : c = true ↔ P) : (!c) = true ↔ ¬P := by
  rw [Bool.not_eq_true', ← Bool.not_eq_true, h]

/-- Settles O34: each jump tests the order of the operands that CMP has left in the flags. -/
theorem jumpsAfterCompare : Obligations.JumpsAfterCompare := by
  intro s e r inc
  obtain ⟨equal, below, less⟩ := order_of_flagsOfDifference (subW_flags16 false (s.readEv e) (s.reg16 r) s.flags)
  have belowOrEqual := Bool.or_eq_true_iff.trans (or_congr below (equal.trans BitVec.toNat_eq))
  have lessOrEqual := Bool.or_eq_true_iff.trans (or_congr less (equal.trans BitVec.toInt_inj.symm))
  rw [← Nat.le_iff_lt_or_eq] at belowOrEqual
  rw [← Int.le_iff_lt_or_eq] at lessOrEqual
  refine ⟨s.flags16 subOp (s.readEv e) (s.reg16 r), rfl, ?_⟩
  simp only [List.forall_mem_cons]
  exact ⟨jumpIf_reaches rfl equal, jumpIf_reaches rfl (not_eq_true_iff_not equal),
    jumpIf_reaches rfl below, jumpIf_reaches rfl ((not_eq_true_iff_not below).trans Nat.not_lt),
    jumpIf_reaches rfl belowOrEqual, jumpIf_reaches rfl ((not_eq_true_iff_not belowOrEqual).trans Nat.not_le),
    jumpIf_reaches rfl less, jumpIf_reaches rfl ((not_eq_true_iff_not less).trans Int.not_lt),
    jumpIf_reaches rfl lessOrEqual, jumpIf_reaches rfl ((not_eq_true_iff_not lessOrEqual).trans Int.not_le),
    List.forall_mem_nil _⟩

end Sys2Proof.Proofs
end

section
/-! PROOFS. Segment registers and flags loaded from elsewhere (spec/40_data_transfer.md R115, R118, R127, R128;
spec/44_control_transfer.md R243): MOV and POP to a segment register, LAHF and SAHF, IRET; obligations O20, O25 and
O40. -/
namespace Sys2Proof.Proofs
open Sys2Proof Sys2Proof.Machine

/-! ### Segment registers -/

/-- `t` is `s` with `v` in the segment register `g`, with `sp` in SP, and with interrupts held off at the end of this
instruction (R115, D11). -/
def LoadsSeg (s t : State) (g : SReg) (v sp : Word) : Prop :=
  t.sreg g = v ∧ t.inhibitInt = true ∧ t.sp = sp ∧ State.segsKept s t [g] ∧ State.regsKept s t [.sp] ∧
    t.flags = s.flags ∧ t.mem = s.mem ∧ State.systemKept s t ∧ t.run = s.run ∧ t.ioIn = s.ioIn ∧ t.trace = s.trace ∧
    State.goesOn s t

theorem loadsSeg_loadSeg (s : State) (g : SReg) (v : Word) : LoadsSeg s (s.loadSeg g v) g v s.sp := by
  have hsegs (q : SReg) : (s.loadSeg g v).sreg q = if q = g then v else s.sreg q := by
    rw [← State.sreg_setSreg]
    cases q <;> rfl
  have hregs (q : Reg16) : (s.loadSeg g v).reg16 q = s.reg16 q := by
    rw [← State.reg16_setSreg s g v]
    cases q <;> rfl
  refine ⟨(hsegs g).trans (if_pos rfl), rfl, hregs .sp, fun q hq => ?_, fun q _ => hregs q, ?_⟩
  · exact (hsegs q).trans (if_neg (by simpa using hq))
  · simp [State.loadSeg, State.systemKept, State.goesOn]

/-- POP loads the word at the top of the stack and raises SP by 2 (R118). -/
theorem loadsSeg_pop (s : State) (g : SReg) :
    LoadsSeg s (s.drop16.loadSeg g s.top16) g (s.read16 s.ss s.sp) (s.sp + 2) := by
  obtain ⟨hseg, hinhibit, hsp, hsegs, hregs, hrest⟩ := loadsSeg_loadSeg s.drop16 g s.top16
  refine ⟨hseg, hinhibit, hsp, fun q hq => (hsegs q hq).trans ?_, fun q hq => (hregs q hq).trans ?_, hrest⟩
  · cases q <;> rfl
  · cases q with
    | sp => exact absurd (List.mem_singleton.2 rfl) hq
    | _ => rfl

/-- Settles O20: MOV loads its operand, POP the top of the stack. -/
theorem segmentLoadsHoldOffInterrupts : Obligations.SegmentLoadsHoldOffInterrupts := by
  intro s e
  simp only [List.forall_mem_cons]
  exact ⟨⟨_, rfl, loadsSeg_loadSeg s .es _⟩, ⟨_, rfl, loadsSeg_loadSeg s .ss _⟩, ⟨_, rfl, loadsSeg_loadSeg s .ds _⟩,
    ⟨_, rfl, loadsSeg_pop s .es⟩, ⟨_, rfl, loadsSeg_pop s .ss⟩, ⟨_, rfl, loadsSeg_pop s .ds⟩, List.forall_mem_nil _⟩

/-! ### LAHF and SAHF -/

/-- The low byte of a word has its eight low bits. -/
theorem getLsbD_loByte (v : Word) {i : Nat} (h : i < 8) : (loByte v).getLsbD i = v.getLsbD i := by
  simp [loByte, h]

/-- Settles O25: AH gets the low byte of the flags' image, and gives five bits of it back. -/
theorem flagsThroughAh : Obligations.FlagsThroughAh := by
  refine fun s => ⟨⟨loByte s.flags.toWord, givesByte_of_writeEb rfl, ?image⟩,
    State.givesFlags_of_setFlags rfl ⟨rfl, rfl, rfl, rfl, rfl, rfl, rfl, rfl, rfl⟩⟩
  case image =>
    obtain ⟨⟨hc, hp, ha, hz, hs, -⟩, -, -, -, -, h1, h5, h3⟩ := toWord_isFlagsImage s.flags
    simp only [getLsbD_loByte, Nat.reduceLT, hc, hp, ha, hz, hs, h1, h3, h5, and_self]

/-! ### IRET -/

/-- Settles O40: with no other master on the bus, IRET is one change of the state. -/
theorem interruptReturnRestores : Obligations.InterruptReturnRestores := by
  intro s hs
  refine ⟨_, (exec_iret s).trans (congrArg _ (State.returnFromInterrupt_eq hs)), rfl, rfl, ofWord_carriesFlags _, rfl,
    ⟨rfl, rfl, rfl⟩, rfl, fun r hr => ?regs, fun r hr => ?segs,
    ⟨⟨rfl, rfl, rfl, rfl, rfl, rfl, rfl, rfl, rfl, rfl⟩, rfl, rfl, rfl⟩, rfl⟩
  case regs =>
    cases r with
    | sp => exact absurd (List.mem_singleton.2 rfl) hr
    | _ => rfl
  case segs =>
    cases r with
    | cs => exact absurd (List.mem_singleton.2 rfl) hr
    | _ => rfl

end Sys2Proof.Proofs
end

section
/-! PROOFS. The spec's worked examples (spec/30_encoding.md; spec/95_test_vectors.md section 2): each is the encoding of
the instruction it is said to be; obligation O60. -/
namespace Sys2Proof.Proofs
open Sys2Proof Sys2Proof.Machine

/-- Settles O60: bytes that are the encoding of a well-formed instruction decode to it. -/
theorem workedExamplesDecode : Obligations.WorkedExamplesDecode := by
  intro q hq
  have encoded : q.2.wf = true ∧ encode q.2 = q.1 := by
    revert q
    decide
  exact decode_eq_instr_iff.2 ⟨encoded.1, (List.append_nil _).trans encoded.2⟩

end Sys2Proof.Proofs
end

section
/-! PROOFS. Instructions that leave a result in AX, or DX:AX, and flags of which some are undefined: what such a result
leaves alone; the decimal adjustments (spec/41_arithmetic.md R144, R145, R151, R152, R155, R158); obligations O6, O7, O8
and O9. -/
namespace Sys2Proof.Proofs
open Sys2Proof Sys2Proof.Machine

/-! ### A result in AX and DX -/

/-- `s` with a result in DX:AX and new flags, the undefined ones among them drawn. -/
def withResult (s : State) (dx ax : Word) (f : Flags) : State := { s.drew with dx := dx, ax := ax, flags := f }

theorem withResult_dx (s : State) (dx ax : Word) (f : Flags) : (withResult s dx ax f).dx = dx := rfl

theorem withResult_ax (s : State) (dx ax : Word) (f : Flags) : (withResult s dx ax f).ax = ax := rfl

/-- What no result touches: the part of the statements that is the same for every form. -/
theorem withResult_kept (s : State) (dx ax : Word) (f : Flags) :
    State.segsKept s (withResult s dx ax f) [] ∧ (withResult s dx ax f).mem = s.mem ∧
      State.restKept s (withResult s dx ax f) ∧ State.goesOn s (withResult s dx ax f) :=
  ⟨fun r _ => by cases r <;> rfl, rfl,
    ⟨⟨⟨rfl, rfl, rfl, rfl, rfl, rfl, rfl, rfl, rfl, rfl⟩, rfl, rfl, rfl⟩, rfl⟩, rfl, rfl, rfl, rfl⟩

/-- A result in AL and AH is in no other register. -/
theorem halvesKept_withResult (s : State) (lo hi : Byte) (f : Flags) :
    State.halvesKept s (withResult s s.dx (wordOf lo hi) f) [.al, .ah] := by
  refine ⟨fun r hr => ?_, rfl, rfl, rfl, rfl⟩
  cases r with
  | al | ah => exact absurd hr (by decide)
  | _ => rfl

/-- A result in AL alone leaves AH, too. -/
theorem halvesKept_withResult_al (s : State) (lo : Byte) (f : Flags) :
    State.halvesKept s (withResult s s.dx (wordOf lo (s.reg8 .ah)) f) [.al] := by
  obtain ⟨hhalves, hrest⟩ := halvesKept_withResult s lo (s.reg8 .ah) f
  refine ⟨fun r hr => ?_, hrest⟩
  cases r with
  | al => exact absurd hr (by decide)
  | ah => exact hiByte_wordOf _ _
  | _ => exact hhalves _ (by decide)

theorem withResult_al (s : State) (dx : Word) (lo hi : Byte) (f : Flags) :
    (withResult s dx (wordOf lo hi) f).reg8 .al = lo := loByte_wordOf lo hi

theorem withResult_ah (s : State) (dx : Word) (lo hi : Byte) (f : Flags) :
    (withResult s dx (wordOf lo hi) f).reg8 .ah = hi := hiByte_wordOf lo hi

/-! ### AAA and AAS -/

theorem adjustLow_iff (al : Byte) (f : Flags) : adjustLow al f = true ↔ 9 < al.toNat % 16 ∨ f.aF = true := by
  simp [adjustLow]

theorem adjustHigh_iff (al : Byte) (f : Flags) : adjustHigh al f = true ↔ 0x99 < al.toNat ∨ f.cF = true := by
  simp [adjustHigh]

theorem asciiAdjust_of_adjust {s : State} (h : adjustLow (s.reg8 .al) s.flags = true) (op : Byte → Byte → Byte) :
    s.asciiAdjust op = withResult s s.dx (wordOf (op (s.reg8 .al) 6 &&& 0x0F) (op (s.reg8 .ah) 1))
      (s.flags.asciiAdjust s.undef true) := by
  unfold State.asciiAdjust
  dsimp only
  rw [if_pos h, h]
  exact congrArg (withResult s s.dx · _) (congrArg (wordOf _) (hiByte_wordOf _ _))

theorem asciiAdjust_of_not_adjust {s : State} (h : adjustLow (s.reg8 .al) s.flags = false) (op : Byte → Byte → Byte) :
    s.asciiAdjust op = withResult s s.dx (wordOf (s.reg8 .al &&& 0x0F) (s.reg8 .ah))
      (s.flags.asciiAdjust s.undef false) := by
  unfold State.asciiAdjust
  dsimp only
  rw [if_neg (Bool.not_eq_true _ ▸ h), h]
  rfl

/-- Settles O6: AAA adjusts by addition, AAS by subtraction. -/
theorem asciiAdjustOfSumAndDifference : Obligations.AsciiAdjustOfSumAndDifference := by
  intro s q hq
  obtain ⟨op, hx, hsix, hone⟩ : ∃ op : Byte → Byte → Byte, exec q.1 s = .next (s.asciiAdjust op) ∧
      (∀ a, op a 6 = a + q.2.1) ∧ (∀ a, op a 1 = a + q.2.2) := by
    simp only [List.mem_cons, List.not_mem_nil, or_false] at hq
    obtain rfl | rfl := hq
    · exact ⟨_, rfl, fun _ => rfl, fun _ => rfl⟩
    · exact ⟨_, rfl, fun a => BitVec.sub_eq_add_neg a 6, fun a => BitVec.sub_eq_add_neg a 1⟩
  refine ⟨_, hx, ?_⟩
  by_cases h : adjustLow (s.reg8 .al) s.flags = true
  · rw [asciiAdjust_of_adjust h, if_pos ((adjustLow_iff _ _).1 h), ← hsix, ← hone]
    exact ⟨⟨withResult_al .., withResult_ah .., rfl, rfl⟩, ⟨rfl, rfl, rfl⟩, halvesKept_withResult ..,
      withResult_kept ..⟩
  · rw [asciiAdjust_of_not_adjust (Bool.not_eq_true _ ▸ h), if_neg (mt (adjustLow_iff _ _).2 h)]
    exact ⟨⟨withResult_al .., withResult_ah .., rfl, rfl⟩, ⟨rfl, rfl, rfl⟩, halvesKept_withResult ..,
      withResult_kept ..⟩

/-! ### DAA and DAS -/

/-- AL after both nibbles have been adjusted by `six` and `sixty`, as far as `low` and `high` say (R145, R152). -/
def decimallyAdjusted (al six sixty : Byte) (low high : Bool) : Byte :=
  al + (if low then six else 0) + (if high then sixty else 0)

theorem adjustments_eq {op : Byte → Byte → Byte} {six sixty : Byte} (h6 : ∀ a, op a 6 = a + six)
    (h60 : ∀ a, op a 0x60 = a + sixty) (al : Byte) (low high : Bool) :
    (if high then op (if low then op al 6 else al) 0x60 else if low then op al 6 else al) =
      decimallyAdjusted al six sixty low high := by
  simp only [h6, h60, decimallyAdjusted]
  cases low <;> cases high <;> simp

theorem decimalAdjust_eq (s : State) {op : Byte → Byte → Byte} {six sixty : Byte} (h6 : ∀ a, op a 6 = a + six)
    (h60 : ∀ a, op a 0x60 = a + sixty) {low high : Bool} {al : Byte} (hlow : adjustLow (s.reg8 .al) s.flags = low)
    (hhigh : adjustHigh (s.reg8 .al) s.flags = high) (hal : decimallyAdjusted (s.reg8 .al) six sixty low high = al) :
    s.decimalAdjust op = withResult s s.dx (wordOf al (s.reg8 .ah)) (s.flags.decimalAdjust s.undef al low high) := by
  unfold State.decimalAdjust
  dsimp only
  rw [hlow, hhigh, adjustments_eq h6 h60, hal]
  rfl

/-- Settles O7: DAA adjusts by addition, DAS by subtraction. -/
theorem decimalAdjustOfSumAndDifference : Obligations.DecimalAdjustOfSumAndDifference := by
  intro s q hq
  obtain ⟨op, hx, h6, h60⟩ : ∃ op : Byte → Byte → Byte, exec q.1 s = .next (s.decimalAdjust op) ∧
      (∀ a, op a 6 = a + q.2.1) ∧ (∀ a, op a 0x60 = a + q.2.2) := by
    simp only [List.mem_cons, List.not_mem_nil, or_false] at hq
    obtain rfl | rfl := hq
    · exact ⟨_, rfl, fun _ => rfl, fun _ => rfl⟩
    · exact ⟨_, rfl, fun a => BitVec.sub_eq_add_neg a 6, fun a => BitVec.sub_eq_add_neg a 0x60⟩
  refine ⟨_, hx, ?_⟩
  rw [decimalAdjust_eq s h6 h60 rfl rfl rfl, withResult_al]
  exact ⟨adjustLow_iff _ _, adjustHigh_iff _ _, rfl, flagsOfResult_of_setSZP s.flags _ _ rfl rfl rfl, ⟨rfl, rfl, rfl⟩,
    halvesKept_withResult_al .., withResult_kept ..⟩

/-! ### Decimal addition -/

/-- The two decimal digits of a byte as a number. -/
def digits (v : Byte) : Nat := 10 * (v.toNat / 16) + v.toNat % 16

/-- The adjustment of a binary sum of packed digits is their decimal sum, with the decimal carry: the sum `al` has
wrapped if there was a carry out of it, and its low nibble has wrapped if there was one into bit 4 (R141, R142, R145).
-/
theorem decimal_sum {a b al res : Byte} {c low high : Bool} (ha : a.toNat % 16 ≤ 9) (ha' : a.toNat / 16 ≤ 9)
    (hb : b.toNat % 16 ≤ 9) (hb' : b.toNat / 16 ≤ 9) (hal : al.toNat = (a.toNat + b.toNat + c.toNat) % 256)
    (hlow : low = true ↔ 9 < al.toNat % 16 ∨ 16 ≤ a.toNat % 16 + b.toNat % 16 + c.toNat)
    (hhigh : high = true ↔ 0x99 < al.toNat ∨ 256 ≤ a.toNat + b.toNat + c.toNat)
    (hres : res = decimallyAdjusted al 6 0x60 low high) :
    res.toNat % 16 ≤ 9 ∧ res.toNat / 16 ≤ 9 ∧ 100 * high.toNat + digits res = digits a + digits b + c.toNat := by
  have hc : c.toNat ≤ 1 := Bool.toNat_le c
  unfold digits
  subst hres
  cases low <;> cases high <;> simp [decimallyAdjusted] at * <;> omega

/-- AL after ADDW with a byte: the sum modulo 256, with its carries in CF and AF (R140). -/
theorem aluR8_addW_al (s : State) (c : Bool) (b : Byte) :
    ((s.aluR8 (addW c) .al b).reg8 .al).toNat = ((s.reg8 .al).toNat + b.toNat + c.toNat) % 256 ∧
      ((s.aluR8 (addW c) .al b).flags.cF = true ↔ 256 ≤ (s.reg8 .al).toNat + b.toNat + c.toNat) ∧
      ((s.aluR8 (addW c) .al b).flags.aF = true ↔
        16 ≤ (s.reg8 .al).toNat % 16 + b.toNat % 16 + c.toNat) :=
  ⟨(congrArg BitVec.toNat (reg8_setReg8_same _ .al _)).trans (BitVec.toNat_ofNat ..), decide_eq_true_iff,
    decide_eq_true_iff⟩

/-- Settles O8: ADD and ADC leave the sum modulo 256 and its two carries, by which DAA then adjusts it. -/
theorem packedDecimalAddition : Obligations.PackedDecimalAddition := by
  intro s b ha ha' hb hb' q hq
  have hx : exec q.1 s = .next (s.aluR8 (addW q.2) .al b) := by
    revert q
    simp only [List.forall_mem_cons]
    exact ⟨rfl, rfl, List.forall_mem_nil _⟩
  obtain ⟨hal, hcarry, hhalf⟩ := aluR8_addW_al s q.2 b
  obtain ⟨u, hu, hlow, hhigh, hres, -⟩ :=
    decimalAdjustOfSumAndDifference (s.aluR8 (addW q.2) .al b) (.daa, 6, 0x60) List.mem_cons_self
  rw [hhalf] at hlow
  rw [hcarry] at hhigh
  exact ⟨_, u, hx, hu, decimal_sum ha ha' hb hb' hal hlow hhigh hres⟩

/-! ### AAM and AAD -/

/-- Settles O9: AAM leaves remainder and quotient by 10, AAD the number of both digits. -/
theorem digitsSplitAndJoined : Obligations.DigitsSplitAndJoined := by
  intro s
  simp only [List.forall_mem_cons]
  refine ⟨?aam, ?aad, List.forall_mem_nil _⟩
  case aam =>
    refine ⟨withResult s s.dx (wordOf (s.reg8 .al % 10) (s.reg8 .al / 10)) _, rfl, ?_⟩
    rw [withResult_al, withResult_ah]
    exact ⟨BitVec.toNat_umod, BitVec.toNat_udiv, flagsOfResult_of_setSZP s.flags _ _ rfl rfl rfl, ⟨rfl, rfl, rfl⟩,
      halvesKept_withResult .., withResult_kept ..⟩
  case aad =>
    refine ⟨withResult s s.dx (wordOf (s.reg8 .ah * 10 + s.reg8 .al) 0) _, rfl, ?_⟩
    rw [withResult_al, withResult_ah]
    refine ⟨?_, rfl, flagsOfResult_of_setSZP s.flags _ _ rfl rfl rfl, ⟨rfl, rfl, rfl⟩,
      halvesKept_withResult .., withResult_kept ..⟩
    rw [BitVec.toNat_add, BitVec.toNat_mul]
    exact Nat.mod_add_mod _ _ _

end Sys2Proof.Proofs
end

section
/-! PROOFS. Multiplication and division (spec/41_arithmetic.md R153, R154, R156, R157): the product is exact in twice
the width, and quotient and remainder are the ones that the dividend determines; obligations O11, O12 and O13. -/
namespace Sys2Proof.Proofs
open Sys2Proof Sys2Proof.Machine

/-! ### Words in two halves -/

theorem hiByte_ne_zero_iff (v : Word) : (hiByte v != 0) = true ↔ 256 ≤ v.toNat := by
  rw [bne_iff_ne, ne_eq, BitVec.toNat_eq, hiByte, BitVec.extractLsb'_toNat, Nat.shiftRight_eq_div_pow]
  have := v.isLt
  simp
  omega

/-- The two halves of a double word (R153). -/
theorem halves_append (p : BitVec 32) : p.extractLsb' 16 16 ++ p.extractLsb' 0 16 = p :=
  BitVec.extractLsb'_append_extractLsb' (w := 16) (len := 16)

theorem highWord_ne_zero_iff (p : BitVec 32) : (p.extractLsb' 16 16 != 0) = true ↔ 65536 ≤ p.toNat := by
  rw [bne_iff_ne, ne_eq, BitVec.toNat_eq, BitVec.extractLsb'_toNat, Nat.shiftRight_eq_div_pow]
  have := p.isLt
  simp
  omega

/-- A number is the sign extension of its lower half just when it fits there as a signed number (R154). -/
theorem ne_signExtend_iff {n w : Nat} (hw : 0 < w) (hn : w ≤ n) (p : BitVec n) :
    (p != (p.extractLsb' 0 w).signExtend n) = true ↔ ¬fitsSigned w p.toInt := by
  rw [bne_iff_ne, ne_eq, not_iff_not, ← BitVec.setWidth_eq_extractLsb' hn, ← BitVec.signExtend_eq_setWidth_of_le p hn,
    ← BitVec.toInt_inj, BitVec.toInt_signExtend_of_le hn]
  constructor
  · intro h
    rw [h]
    exact ⟨BitVec.le_toInt _, BitVec.toInt_lt⟩
  · rintro ⟨hle, hlt⟩
    rw [BitVec.toInt_signExtend_eq_toInt_bmod_of_le p hn, ← BitVec.toInt_ofInt, BitVec.toInt_ofInt_eq_self hw hle hlt]

/-! ### The product -/

theorem mul_toNat {w : Nat} (a b : BitVec w) :
    (BitVec.ofNat (w + w) (a.toNat * b.toNat)).toNat = a.toNat * b.toNat := by
  rw [BitVec.toNat_ofNat, Nat.pow_add]
  exact Nat.mod_eq_of_lt (Nat.mul_lt_mul'' a.isLt b.isLt)

theorem mul_toInt {w : Nat} (hw : 0 < w) (a b : BitVec w) :
    (BitVec.ofInt (w * 2) (a.toInt * b.toInt)).toInt = a.toInt * b.toInt := by
  have hpow : (2 : Int) ^ (w * 2 - 2) < 2 ^ (w * 2 - 1) := pow_lt_pow_right₀ (by decide) (by omega)
  exact BitVec.toInt_ofInt_eq_self (by omega) ((neg_le_neg hpow.le).trans BitVec.le_toInt_mul_toInt)
    (BitVec.toInt_mul_toInt_le.trans_lt hpow)

/-! ### What is kept -/

theorem regsKept_withResult (s : State) (dx ax : Word) (f : Flags) :
    State.regsKept s (withResult s dx ax f) [.ax, .dx] := by
  intro r hr
  cases r with
  | ax | dx => exact absurd hr (by decide)
  | _ => rfl

/-- A result in AX alone. -/
theorem regsKept_withResult_ax (s : State) (ax : Word) (f : Flags) :
    State.regsKept s (withResult s s.dx ax f) [.ax] := by
  intro r hr
  cases r with
  | ax => exact absurd hr (by decide)
  | _ => rfl

/-- Settles O11: the product is exact, and its upper half says whether it fits the lower one. -/
theorem multiplyGivesTheProduct : Obligations.MultiplyGivesTheProduct := by
  refine fun s => ⟨fun e => ⟨⟨withResult s s.dx _ _, rfl, ?mul8⟩, withResult s s.dx _ _, rfl, ?imul8⟩,
    fun e => ⟨⟨withResult s _ _ _, rfl, ?mul16⟩, withResult s _ _ _, rfl, ?imul16⟩⟩
  case mul8 =>
    exact ⟨mul_toNat (w := 8) _ _, hiByte_ne_zero_iff _, rfl, ⟨rfl, rfl, rfl⟩, regsKept_withResult_ax _ _ _,
      withResult_kept ..⟩
  case imul8 =>
    exact ⟨mul_toInt (w := 8) (by decide) _ _, ne_signExtend_iff (by decide) (by decide) _, rfl, ⟨rfl, rfl, rfl⟩,
      regsKept_withResult_ax _ _ _, withResult_kept ..⟩
  case mul16 =>
    rw [withResult_dx, withResult_ax, halves_append]
    exact ⟨mul_toNat (w := 16) _ _, highWord_ne_zero_iff _, rfl, ⟨rfl, rfl, rfl⟩, regsKept_withResult _ _ _ _,
      withResult_kept ..⟩
  case imul16 =>
    rw [withResult_dx, withResult_ax, halves_append]
    exact ⟨mul_toInt (w := 16) (by decide) _ _, ne_signExtend_iff (by decide) (by decide) _, rfl, ⟨rfl, rfl, rfl⟩,
      regsKept_withResult _ _ _ _, withResult_kept ..⟩

/-! ### Unsigned division -/

/-- The dividend determines quotient and remainder (R156). -/
theorem div_mod_of_eq {n d q r : Nat} (h : n = q * d + r) (hr : r < d) : n / d = q ∧ n % d = r :=
  (Nat.div_mod_unique (by omega)).2 ⟨by rw [h, Nat.mul_comm, Nat.add_comm], hr⟩

theorem div8_of_fits {s : State} {b : Byte} {q r : Nat} (h : s.ax.toNat = q * b.toNat + r) (hr : r < b.toNat)
    (hq : q ≤ 0xFF) : s.div8 b =
      withResult s s.dx (wordOf (BitVec.ofNat 8 q) (BitVec.ofNat 8 r)) (s.flags.divide s.undef) := by
  obtain ⟨hdiv, hmod⟩ := div_mod_of_eq h hr
  unfold State.div8
  dsimp only
  rw [hdiv, hmod, if_neg (by omega)]
  rfl

theorem div16_of_fits {s : State} {b : Word} {q r : Nat} (h : (s.dx ++ s.ax).toNat = q * b.toNat + r)
    (hr : r < b.toNat) (hq : q ≤ 0xFFFF) : s.div16 b =
      withResult s (BitVec.ofNat 16 r) (BitVec.ofNat 16 q) (s.flags.divide s.undef) := by
  obtain ⟨hdiv, hmod⟩ := div_mod_of_eq h hr
  unfold State.div16
  dsimp only
  rw [← toNat_dx_ax, hdiv, hmod, if_neg (by omega)]
  rfl

/-- Settles O12: quotient and remainder are those of the division, and each fits its register. -/
theorem unsignedDivisionGivesQuotientAndRemainder : Obligations.UnsignedDivisionGivesQuotientAndRemainder := by
  refine fun s q r => ⟨fun e h hr hq => ⟨_, congrArg Host.Outcome.next (div8_of_fits h hr hq), ?byte⟩,
    fun e h hr hq => ⟨_, congrArg Host.Outcome.next (div16_of_fits h hr hq), ?word⟩⟩
  case byte =>
    have hdivisor := (s.readEb e).isLt
    rw [withResult_al, withResult_ah]
    exact ⟨Nat.mod_eq_of_lt (by omega), Nat.mod_eq_of_lt (by omega), ⟨rfl, rfl, rfl⟩, regsKept_withResult_ax _ _ _,
      withResult_kept ..⟩
  case word =>
    have hdivisor := (s.readEv e).isLt
    exact ⟨Nat.mod_eq_of_lt (by omega), Nat.mod_eq_of_lt (by omega), ⟨rfl, rfl, rfl⟩, regsKept_withResult _ _ _ _,
      withResult_kept ..⟩

/-! ### Signed division -/

/-- The dividend determines the quotient truncated toward zero, and the remainder with its sign (R157). -/
theorem tdiv_tmod_of_eq {n d q r : Int} (h : n = q * d + r) (hr : r.natAbs < d.natAbs)
    (hsign : r = 0 ∨ (0 < r ↔ 0 < n)) : n.tdiv d = q ∧ n.tmod d = r := by
  have hd : d ≠ 0 := by omega
  have hn : r + d * q = n := by rw [h, mul_comm, add_comm]
  rcases lt_or_ge 0 n with hpos | hneg
  · exact (Int.tdiv_tmod_unique hpos.le hd).2 ⟨hn, by omega, by omega⟩
  · exact (Int.tdiv_tmod_unique' hneg hd).2 ⟨hn, by omega, by omega⟩

theorem idiv8_of_fits {s : State} {b : Byte} {q r : Int} (h : s.ax.toInt = q * b.toInt + r)
    (hr : r.natAbs < b.toInt.natAbs) (hsign : r = 0 ∨ (0 < r ↔ 0 < s.ax.toInt)) (hlow : -127 ≤ q) (hhigh : q ≤ 127) :
    s.idiv8 b = withResult s s.dx (wordOf (BitVec.ofInt 8 q) (BitVec.ofInt 8 r)) (s.flags.divide s.undef) := by
  obtain ⟨hdiv, hmod⟩ := tdiv_tmod_of_eq h hr hsign
  unfold State.idiv8
  dsimp only
  rw [hdiv, hmod, if_neg (by omega)]
  rfl

theorem idiv16_of_fits {s : State} {b : Word} {q r : Int} (h : (s.dx ++ s.ax).toInt = q * b.toInt + r)
    (hr : r.natAbs < b.toInt.natAbs) (hsign : r = 0 ∨ (0 < r ↔ 0 < (s.dx ++ s.ax).toInt)) (hlow : -32767 ≤ q)
    (hhigh : q ≤ 32767) : s.idiv16 b =
      withResult s (BitVec.ofInt 16 r) (BitVec.ofInt 16 q) (s.flags.divide s.undef) := by
  obtain ⟨hdiv, hmod⟩ := tdiv_tmod_of_eq h hr hsign
  unfold State.idiv16
  dsimp only
  rw [hdiv, hmod, if_neg (by omega)]
  rfl

/-- Quotient and remainder fit `w` bits as signed numbers: the quotient by the symmetric range of D26, the remainder
since it is smaller than the divisor. -/
theorem toInt_quotient_remainder {w : Nat} (hw : 0 < w) {b : BitVec w} {q r : Int} (hr : r.natAbs < b.toInt.natAbs)
    (hlow : -(2 ^ (w - 1) - 1) ≤ q) (hhigh : q ≤ 2 ^ (w - 1) - 1) :
    (BitVec.ofInt w q).toInt = q ∧ (BitVec.ofInt w r).toInt = r := by
  have hlt := b.toInt_lt
  have hle := b.le_toInt
  exact ⟨BitVec.toInt_ofInt_eq_self hw (by omega) (by omega), BitVec.toInt_ofInt_eq_self hw (by omega) (by omega)⟩

/-- Settles O13: quotient and remainder are those of the truncated division, and each fits its register. -/
theorem signedDivisionGivesQuotientAndRemainder : Obligations.SignedDivisionGivesQuotientAndRemainder := by
  refine fun s q r => ⟨fun e h hr hsign hlow hhigh =>
      ⟨_, congrArg Host.Outcome.next (idiv8_of_fits h hr hsign hlow hhigh), ?byte⟩,
    fun e h hr hsign hlow hhigh => ⟨_, congrArg Host.Outcome.next (idiv16_of_fits h hr hsign hlow hhigh), ?word⟩⟩
  case byte =>
    obtain ⟨hq, hr⟩ := toInt_quotient_remainder (w := 8) (by decide) hr hlow hhigh
    rw [withResult_al, withResult_ah]
    exact ⟨hq, hr, ⟨rfl, rfl, rfl⟩, regsKept_withResult_ax _ _ _, withResult_kept ..⟩
  case word =>
    obtain ⟨hq, hr⟩ := toInt_quotient_remainder (w := 16) (by decide) hr hlow hhigh
    exact ⟨hq, hr, ⟨rfl, rfl, rfl⟩, regsKept_withResult _ _ _ _, withResult_kept ..⟩

end Sys2Proof.Proofs
end

section
/-! PROOFS. Shifts and rotates (spec/42_logic_shift.md R176 to R183): what repeating the step of one bit position
amounts to, by bits; the flags; obligations O16 and O17. -/
namespace Sys2Proof.Proofs
open Sys2Proof Sys2Proof.Machine

/-! ### One bit in a value -/

theorem getLsbD_bitLow {w : Nat} (b : Bool) (i : Nat) :
    (bitLow w b).getLsbD i = (decide (i < w) && (decide (i = 0) && b)) := by
  rw [bitLow, BitVec.getLsbD_setWidth, BitVec.getLsbD_ofBool]

theorem getLsbD_bitHigh {w : Nat} (b : Bool) (i : Nat) :
    (bitHigh w b).getLsbD i = (decide (i < w) && (decide (i = w - 1) && b)) := by
  rw [bitHigh, BitVec.getLsbD_shiftLeft, getLsbD_bitLow]
  by_cases hi : i < w <;> by_cases hlast : i = w - 1 <;> simp [hi, hlast]
  omega

/-! ### Rotations that follow one another -/

theorem rotateLeft_add {w : Nat} (x : BitVec w) (m n : Nat) : (x.rotateLeft m).rotateLeft n = x.rotateLeft (m + n) := by
  refine BitVec.eq_of_getMsbD_eq fun i hi => ?_
  rw [BitVec.getMsbD_rotateLeft, BitVec.getMsbD_rotateLeft, BitVec.getMsbD_rotateLeft, Nat.add_mod_mod, Nat.add_assoc,
    decide_eq_true (Nat.mod_lt _ (by omega)), Bool.true_and]

/-- The bits of a rotation to the right, by their places modulo the width. -/
theorem getLsbD_rotateRight_mod {w : Nat} (x : BitVec w) (n i : Nat) :
    (x.rotateRight n).getLsbD i = (decide (i < w) && x.getLsbD ((n + i) % w)) := by
  by_cases hi : i < w
  · have hn := Nat.mod_lt n (show w > 0 by omega)
    rw [BitVec.getLsbD_rotateRight, decide_eq_true hi, Bool.true_and, Bool.true_and, ← Nat.mod_add_mod]
    generalize n % w = k at hn
    by_cases hlow : i < w - k
    · rw [decide_eq_true hlow, cond_true, Nat.mod_eq_of_lt (by omega)]
    · rw [decide_eq_false hlow, cond_false, Nat.mod_eq_sub_mod (by omega), Nat.mod_eq_of_lt (by omega)]
      exact congrArg x.getLsbD (by omega)
  · simp [hi, BitVec.getLsbD_of_ge _ _ (Nat.le_of_not_lt hi)]

theorem rotateRight_add {w : Nat} (x : BitVec w) (m n : Nat) :
    (x.rotateRight m).rotateRight n = x.rotateRight (m + n) := by
  refine BitVec.eq_of_getLsbD_eq fun i hi => ?_
  simp only [getLsbD_rotateRight_mod]
  rw [Nat.add_mod_mod, Nat.add_assoc, decide_eq_true (Nat.mod_lt _ (by omega)), Bool.true_and]

theorem rotateLeft_zero {w : Nat} (x : BitVec w) : x.rotateLeft 0 = x := by
  refine BitVec.eq_of_getMsbD_eq fun i hi => ?_
  rw [BitVec.getMsbD_rotateLeft, Nat.zero_add, Nat.mod_eq_of_lt hi, decide_eq_true hi, Bool.true_and]

theorem rotateRight_zero {w : Nat} (x : BitVec w) : x.rotateRight 0 = x := by
  refine BitVec.eq_of_getLsbD_eq fun i hi => ?_
  rw [getLsbD_rotateRight_mod, Nat.zero_add, Nat.mod_eq_of_lt hi, decide_eq_true hi, Bool.true_and]

/-! ### One position -/

section
variable {w i : Nat} (v : BitVec w) (b c : Bool) (hi : i < w)
include hi

/-- A value moved up by one position, with `b` coming in (R177, R180, R182). -/
theorem getLsbD_shiftLeft_in : (v <<< 1 ||| bitLow w b).getLsbD i = if i = 0 then b else v.getLsbD (i - 1) := by
  rw [BitVec.getLsbD_or, getLsbD_bitLow, BitVec.getLsbD_shiftLeft]
  by_cases hfirst : i = 0
  · subst hfirst
    simp [hi]
  · simp [hi, hfirst]

/-- A value moved down by one position, with `b` coming in (R178, R179, R181, R183). -/
theorem getLsbD_shiftRight_in : (v >>> 1 ||| bitHigh w b).getLsbD i = if i = w - 1 then b else v.getLsbD (i + 1) := by
  rw [BitVec.getLsbD_or, getLsbD_bitHigh, BitVec.getLsbD_ushiftRight, Nat.add_comm 1 i]
  by_cases hlast : i = w - 1
  · simp [hlast, BitVec.getLsbD_of_ge v (w - 1 + 1) (by omega)]
    omega
  · simp [hi, hlast]

theorem getLsbD_rotateLeft_one :
    (v.rotateLeft 1).getLsbD i = if i = 0 then v.getLsbD (w - 1) else v.getLsbD (i - 1) := by
  rcases (show w = 1 ∨ 1 < w by omega) with rfl | hw
  · obtain rfl : i = 0 := by omega
    simp
  · rw [BitVec.getLsbD_rotateLeft, Nat.mod_eq_of_lt hw]
    by_cases hfirst : i = 0
    · simp [hfirst]
    · simp [hi, hfirst]

theorem getLsbD_rotateRight_one :
    (v.rotateRight 1).getLsbD i = if i = w - 1 then v.getLsbD 0 else v.getLsbD (i + 1) := by
  rw [getLsbD_rotateRight_mod, decide_eq_true hi, Bool.true_and]
  by_cases hlast : i = w - 1
  · rw [if_pos hlast, show 1 + i = w by omega, Nat.mod_self]
  · rw [if_neg hlast, Nat.mod_eq_of_lt (by omega), Nat.add_comm]

end

/-! ### One step -/

section
variable {w : Nat} (v : BitVec w) (c : Bool)

theorem shiftStep_rol : shiftStep .rol v c = (v.rotateLeft 1, v.msb) := by
  refine Prod.ext (BitVec.eq_of_getLsbD_eq fun i hi => ?_) rfl
  rw [shiftStep, getLsbD_rotateLeft_one v hi, getLsbD_shiftLeft_in v _ hi, BitVec.msb_eq_getLsbD_last]

theorem shiftStep_ror : shiftStep .ror v c = (v.rotateRight 1, v.getLsbD 0) := by
  refine Prod.ext (BitVec.eq_of_getLsbD_eq fun i hi => ?_) rfl
  rw [shiftStep, getLsbD_rotateRight_one v hi, getLsbD_shiftRight_in v _ hi]

theorem shiftStep_sar : shiftStep .sar v c = (v.sshiftRight 1, v.getLsbD 0) := by
  refine Prod.ext (BitVec.eq_of_getLsbD_eq fun i hi => ?_) rfl
  rw [shiftStep, getLsbD_shiftRight_in v _ hi, BitVec.getLsbD_sshiftRight, Nat.add_comm 1 i]
  by_cases hlast : i = w - 1
  · rw [if_pos hlast, if_neg (by omega), decide_eq_false (by omega), Bool.not_false, Bool.true_and]
  · rw [if_neg hlast, if_pos (by omega), decide_eq_false (by omega), Bool.not_false, Bool.true_and]

/-- RCL is a rotation of the carry and the value together (R182). -/
theorem cons_shiftStep_rcl (hw : 0 < w) :
    BitVec.cons (shiftStep .rcl v c).2 (shiftStep .rcl v c).1 = (BitVec.cons c v).rotateLeft 1 := by
  refine BitVec.eq_of_getLsbD_eq fun i hi => ?_
  rw [getLsbD_rotateLeft_one _ hi, BitVec.getLsbD_cons, BitVec.getLsbD_cons, BitVec.getLsbD_cons]
  dsimp only [shiftStep]
  by_cases htop : i = w
  · rw [if_pos htop, if_neg (by omega), if_neg (by omega), BitVec.msb_eq_getLsbD_last, htop]
  · rw [if_neg htop, getLsbD_shiftLeft_in v c (by omega), if_neg (show i - 1 ≠ w by omega)]
    simp

/-- RCR is a rotation of the carry and the value together (R183). -/
theorem cons_shiftStep_rcr (hw : 0 < w) :
    BitVec.cons (shiftStep .rcr v c).2 (shiftStep .rcr v c).1 = (BitVec.cons c v).rotateRight 1 := by
  refine BitVec.eq_of_getLsbD_eq fun i hi => ?_
  rw [getLsbD_rotateRight_one _ hi, BitVec.getLsbD_cons, BitVec.getLsbD_cons, BitVec.getLsbD_cons]
  dsimp only [shiftStep]
  by_cases htop : i = w
  · rw [if_pos htop, if_pos (by omega), if_neg (by omega)]
  · rw [if_neg htop, getLsbD_shiftRight_in v c (by omega), if_neg (show i ≠ w + 1 - 1 by omega)]
    exact if_congr (by omega) rfl rfl

end

/-! ### Any number of steps -/

section
variable {w : Nat} (v : BitVec w) (c : Bool)

/-- Of several steps, one is the last (R176). -/
theorem shiftRun_succ (op : ShiftOp) (n : Nat) :
    shiftRun op (n + 1) v c = shiftStep op (shiftRun op n v c).1 (shiftRun op n v c).2 := by
  induction n generalizing v c with
  | zero => rfl
  | succ n ih => exact ih _ _

theorem shiftRun_shl_fst (n : Nat) : (shiftRun .shl n v c).1 = v <<< n := by
  induction n with
  | zero => exact (BitVec.shiftLeft_zero v).symm
  | succ n ih => rw [shiftRun_succ, BitVec.shiftLeft_add, ← ih]; rfl

theorem shiftRun_shr_fst (n : Nat) : (shiftRun .shr n v c).1 = v >>> n := by
  induction n with
  | zero => exact (BitVec.ushiftRight_zero v).symm
  | succ n ih => rw [shiftRun_succ, BitVec.shiftRight_add, ← ih]; rfl

theorem shiftRun_sar_fst (n : Nat) : (shiftRun .sar n v c).1 = v.sshiftRight n := by
  induction n with
  | zero => exact BitVec.sshiftRight_zero.symm
  | succ n ih => rw [shiftRun_succ, BitVec.sshiftRight_add, ← ih, shiftStep_sar]

theorem shiftRun_rol_fst (n : Nat) : (shiftRun .rol n v c).1 = v.rotateLeft n := by
  induction n with
  | zero => exact (rotateLeft_zero v).symm
  | succ n ih => rw [shiftRun_succ, ← rotateLeft_add, ← ih, shiftStep_rol]

theorem shiftRun_ror_fst (n : Nat) : (shiftRun .ror n v c).1 = v.rotateRight n := by
  induction n with
  | zero => exact (rotateRight_zero v).symm
  | succ n ih => rw [shiftRun_succ, ← rotateRight_add, ← ih, shiftStep_ror]

theorem cons_shiftRun_rcl (hw : 0 < w) (n : Nat) :
    BitVec.cons (shiftRun .rcl n v c).2 (shiftRun .rcl n v c).1 = (BitVec.cons c v).rotateLeft n := by
  induction n with
  | zero => exact (rotateLeft_zero _).symm
  | succ n ih => rw [shiftRun_succ, cons_shiftStep_rcl _ _ hw, ih, rotateLeft_add]

theorem cons_shiftRun_rcr (hw : 0 < w) (n : Nat) :
    BitVec.cons (shiftRun .rcr n v c).2 (shiftRun .rcr n v c).1 = (BitVec.cons c v).rotateRight n := by
  induction n with
  | zero => exact (rotateRight_zero _).symm
  | succ n ih => rw [shiftRun_succ, cons_shiftStep_rcr _ _ hw, ih, rotateRight_add]

/-! ### The result and the last bit out -/

variable {n : Nat} (hn : n ≠ 0)
include hn

theorem shiftRun_shl : shiftRun .shl n v c = (v <<< n, decide (n ≤ w) && v.getLsbD (w - n)) := by
  obtain ⟨m, rfl⟩ := Nat.exists_eq_succ_of_ne_zero hn
  refine Prod.ext (shiftRun_shl_fst v c _) ?_
  rw [shiftRun_succ, shiftStep, shiftRun_shl_fst, BitVec.msb_shiftLeft, BitVec.getMsbD_eq_getLsbD, Nat.sub_sub,
    Nat.add_comm 1 m]
  rfl

theorem shiftRun_shr : shiftRun .shr n v c = (v >>> n, v.getLsbD (n - 1)) := by
  obtain ⟨m, rfl⟩ := Nat.exists_eq_succ_of_ne_zero hn
  refine Prod.ext (shiftRun_shr_fst v c _) ?_
  rw [shiftRun_succ, shiftStep, shiftRun_shr_fst, BitVec.getLsbD_ushiftRight]
  rfl

theorem shiftRun_sar : shiftRun .sar n v c = (v.sshiftRight n, (v.sshiftRight (n - 1)).getLsbD 0) := by
  obtain ⟨m, rfl⟩ := Nat.exists_eq_succ_of_ne_zero hn
  refine Prod.ext (shiftRun_sar_fst v c _) ?_
  rw [shiftRun_succ, shiftStep_sar, shiftRun_sar_fst]
  rfl

theorem shiftRun_rol (hw : 0 < w) : shiftRun .rol n v c = (v.rotateLeft n, (v.rotateLeft n).getLsbD 0) := by
  obtain ⟨m, rfl⟩ := Nat.exists_eq_succ_of_ne_zero hn
  refine Prod.ext (shiftRun_rol_fst v c _) ?_
  rw [shiftRun_succ, shiftStep_rol, shiftRun_rol_fst, ← rotateLeft_add v m 1, getLsbD_rotateLeft_one _ hw, if_pos rfl,
    BitVec.msb_eq_getLsbD_last]

theorem shiftRun_ror (hw : 0 < w) : shiftRun .ror n v c = (v.rotateRight n, (v.rotateRight n).getLsbD (w - 1)) := by
  obtain ⟨m, rfl⟩ := Nat.exists_eq_succ_of_ne_zero hn
  refine Prod.ext (shiftRun_ror_fst v c _) ?_
  rw [shiftRun_succ, shiftStep_ror, shiftRun_ror_fst, ← rotateRight_add v m 1,
    getLsbD_rotateRight_one _ (Nat.sub_lt hw Nat.one_pos), if_pos rfl]

omit hn

/-- A carry and a value, taken apart again. -/
theorem pair_of_cons {p : BitVec w × Bool} {x : BitVec (w + 1)} (h : BitVec.cons p.2 p.1 = x) :
    p = (x.setWidth w, x.getLsbD w) := by
  rw [← h, BitVec.setWidth_cons, BitVec.getLsbD_cons, if_pos rfl]

theorem shiftRun_rcl (hw : 0 < w) (n : Nat) : shiftRun .rcl n v c =
    (((BitVec.cons c v).rotateLeft n).setWidth w, ((BitVec.cons c v).rotateLeft n).getLsbD w) :=
  pair_of_cons (cons_shiftRun_rcl v c hw n)

theorem shiftRun_rcr (hw : 0 < w) (n : Nat) : shiftRun .rcr n v c =
    (((BitVec.cons c v).rotateRight n).setWidth w, ((BitVec.cons c v).rotateRight n).getLsbD w) :=
  pair_of_cons (cons_shiftRun_rcr v c hw n)

end

/-! ### OF after a count of 1 -/

section
variable {w : Nat} (hw : 1 < w) (v : BitVec w) (c : Bool)
include hw

/-- Moving up, OF says whether the two highest bits differ (R177, R180, R182). -/
theorem overflow_up {op : ShiftOp} (hop : op = .shl ∨ op = .rol ∨ op = .rcl) :
    shiftOverflow op v (shiftRun op 1 v c).1 (shiftRun op 1 v c).2 = (v.getLsbD (w - 2) ^^ v.getLsbD (w - 1)) := by
  have moved (b : Bool) : (v <<< 1 ||| bitLow w b).msb = v.getLsbD (w - 2) := by
    rw [BitVec.msb_eq_getLsbD_last, getLsbD_shiftLeft_in v b (by omega), if_neg (by omega), Nat.sub_sub]
  have moved0 : (v <<< 1).msb = v.getLsbD (w - 2) := by
    rw [← moved false]
    simp [bitLow]
  rcases hop with rfl | rfl | rfl
  all_goals
    dsimp only [shiftOverflow, shiftRun, shiftStep]
    simp only [moved, moved0, BitVec.msb_eq_getLsbD_last v]

/-- Moving down around an end, OF says whether the bit that came in and the highest bit differ (R181, R183). -/
theorem overflow_down {op : ShiftOp} {b : Bool} (hop : op = .ror ∧ b = v.getLsbD 0 ∨ op = .rcr ∧ b = c) :
    shiftOverflow op v (shiftRun op 1 v c).1 (shiftRun op 1 v c).2 = (b ^^ v.getLsbD (w - 1)) := by
  have moved : (v >>> 1 ||| bitHigh w b).msb = b ∧ (v >>> 1 ||| bitHigh w b).getMsbD 1 = v.getLsbD (w - 1) := by
    rw [BitVec.msb_eq_getLsbD_last, BitVec.getMsbD_eq_getLsbD, getLsbD_shiftRight_in v b (by omega),
      getLsbD_shiftRight_in v b (by omega), if_pos rfl, if_neg (by omega), decide_eq_true hw, Bool.true_and]
    exact ⟨rfl, congrArg v.getLsbD (by omega)⟩
  rcases hop with ⟨rfl, rfl⟩ | ⟨rfl, rfl⟩
  all_goals
    dsimp only [shiftOverflow, shiftRun, shiftStep]
    rw [moved.1, moved.2]

end

/-! ### The flags -/

/-- The flags after a shift by `n` that leaves `res`, with `out` the last bit out and `ov` what OF is after a count of 1
(R176 to R179). -/
def ShiftFlags {w : Nat} (n : Nat) (res : BitVec w) (out ov : Bool) (old f : Flags) : Prop :=
  f.cF = out ∧ (n = 1 → f.oF = ov) ∧ flagsOfResult res f ∧ controlKept old f

/-- The flags after a rotate by `n`, likewise (R176, R180 to R183). -/
def RotateFlags (n : Nat) (out ov : Bool) (old f : Flags) : Prop :=
  f.cF = out ∧ (n = 1 → f.oF = ov) ∧ { f with cF := old.cF, oF := old.oF } = old

/-- What a shift or rotate of `v` by `n` gives: the result, the last bit out, and OF after a count of 1. -/
structure Shifts {w : Nat} (op : ShiftOp) (n : Nat) (v : BitVec w) (c : Bool) (res : BitVec w) (out ov : Bool) :
    Prop where
  count : n ≠ 0
  run : shiftRun op n v c = (res, out)
  overflow : shiftOverflow op v (shiftRun op 1 v c).1 (shiftRun op 1 v c).2 = ov

section
variable {w : Nat} {op : ShiftOp} {n : Nat} {v res : BitVec w} {f : Flags} {out ov : Bool}
  (h : Shifts op n v f.cF res out ov) (u : StatusFlag → Bool)
include h

theorem Shifts.shiftBy_fst : (shiftBy op u n v f).1 = res := by
  rw [shiftBy, if_neg h.count, h.run]

theorem Shifts.overflow_of_one (h1 : n = 1) : shiftOverflow op v res out = ov := by
  have hrun := h.run
  subst h1
  rw [← h.overflow, hrun]

theorem Shifts.shiftFlags (hop : op.isRotate = false) : ShiftFlags n res out ov f (shiftBy op u n v f).2 := by
  rw [shiftBy, if_neg h.count, h.run, hop]
  exact ⟨rfl, fun h1 => (if_pos h1).trans (h.overflow_of_one h1), flagsOfResult_of_setSZP f _ _ rfl rfl rfl, rfl, rfl,
    rfl⟩

theorem Shifts.rotateFlags (hop : op.isRotate = true) : RotateFlags n out ov f (shiftBy op u n v f).2 := by
  rw [shiftBy, if_neg h.count, h.run, hop]
  exact ⟨rfl, fun h1 => (if_pos h1).trans (h.overflow_of_one h1), rfl⟩

end

section
variable {w : Nat} (hw : 1 < w) (v : BitVec w) (c : Bool) {n : Nat} (hn : n ≠ 0)
include hw hn

theorem shifts_shl : Shifts .shl n v c (v <<< n) (decide (n ≤ w) && v.getLsbD (w - n))
    (v.getLsbD (w - 2) ^^ v.getLsbD (w - 1)) :=
  ⟨hn, shiftRun_shl v c hn, overflow_up hw v c (.inl rfl)⟩

theorem shifts_rol : Shifts .rol n v c (v.rotateLeft n) ((v.rotateLeft n).getLsbD 0)
    (v.getLsbD (w - 2) ^^ v.getLsbD (w - 1)) :=
  ⟨hn, shiftRun_rol v c hn (by omega), overflow_up hw v c (.inr (.inl rfl))⟩

theorem shifts_ror : Shifts .ror n v c (v.rotateRight n) ((v.rotateRight n).getLsbD (w - 1))
    (v.getLsbD 0 ^^ v.getLsbD (w - 1)) :=
  ⟨hn, shiftRun_ror v c hn (by omega), overflow_down hw v c (.inl ⟨rfl, rfl⟩)⟩

theorem shifts_rcl : Shifts .rcl n v c (((BitVec.cons c v).rotateLeft n).setWidth w)
    (((BitVec.cons c v).rotateLeft n).getLsbD w) (v.getLsbD (w - 2) ^^ v.getLsbD (w - 1)) :=
  ⟨hn, shiftRun_rcl v c (by omega) n, overflow_up hw v c (.inr (.inr rfl))⟩

theorem shifts_rcr : Shifts .rcr n v c (((BitVec.cons c v).rotateRight n).setWidth w)
    (((BitVec.cons c v).rotateRight n).getLsbD w) (c ^^ v.getLsbD (w - 1)) :=
  ⟨hn, shiftRun_rcr v c (by omega) n, overflow_down hw v c (.inr ⟨rfl, rfl⟩)⟩

omit hw

theorem shifts_shr : Shifts .shr n v c (v >>> n) (v.getLsbD (n - 1)) (v.getLsbD (w - 1)) :=
  ⟨hn, shiftRun_shr v c hn, BitVec.msb_eq_getLsbD_last v⟩

theorem shifts_sar :
    Shifts .sar n v c (v.sshiftRight n) ((v.sshiftRight (n - 1)).getLsbD 0) false :=
  ⟨hn, shiftRun_sar v c hn, rfl⟩

end

/-! ### The instructions -/

section
variable {s : State} (hs : s.undisturbed) {i : Instr} {op : ShiftOp} {n : Nat} {out ov : Bool}
include hs

theorem givesWord_of_shift {e : Ev} {res : Word} (hx : exec i s = .next (s.shiftEv op n e)) (hop : op.isRotate = false)
    (h : Shifts op n (s.readEv e) s.flags.cF res out ov) : s.givesWord i e res (ShiftFlags n res out ov s.flags) :=
  givesWord_of_drew_rmwEv hs (hx.trans (congrArg _ (if_neg h.count))) (h.shiftBy_fst s.undef)
    (h.shiftFlags s.undef hop)

theorem givesWord_of_rotate {e : Ev} {res : Word} (hx : exec i s = .next (s.shiftEv op n e)) (hop : op.isRotate = true)
    (h : Shifts op n (s.readEv e) s.flags.cF res out ov) : s.givesWord i e res (RotateFlags n out ov s.flags) :=
  givesWord_of_drew_rmwEv hs (hx.trans (congrArg _ (if_neg h.count))) (h.shiftBy_fst s.undef)
    (h.rotateFlags s.undef hop)

theorem givesByte_of_shift {e : Eb} {res : Byte} (hx : exec i s = .next (s.shiftEb op n e)) (hop : op.isRotate = false)
    (h : Shifts op n (s.readEb e) s.flags.cF res out ov) : s.givesByte i e res (ShiftFlags n res out ov s.flags) :=
  givesByte_of_drew_rmwEb hs (hx.trans (congrArg _ (if_neg h.count))) (h.shiftBy_fst s.undef)
    (h.shiftFlags s.undef hop)

theorem givesByte_of_rotate {e : Eb} {res : Byte} (hx : exec i s = .next (s.shiftEb op n e)) (hop : op.isRotate = true)
    (h : Shifts op n (s.readEb e) s.flags.cF res out ov) : s.givesByte i e res (RotateFlags n out ov s.flags) :=
  givesByte_of_drew_rmwEb hs (hx.trans (congrArg _ (if_neg h.count))) (h.shiftBy_fst s.undef)
    (h.rotateFlags s.undef hop)

end

/-- A count of 0 changes nothing (R176). -/
theorem exec_of_shiftEv_zero {s : State} {i : Instr} {op : ShiftOp} {n : Nat} {e : Ev}
    (hx : exec i s = .next (s.shiftEv op n e)) (hn : n = 0) : exec i s = .next s := hx.trans (congrArg _ (if_pos hn))

theorem exec_of_shiftEb_zero {s : State} {i : Instr} {op : ShiftOp} {n : Nat} {e : Eb}
    (hx : exec i s = .next (s.shiftEb op n e)) (hn : n = 0) : exec i s = .next s := hx.trans (congrArg _ (if_pos hn))

/-- Settles O16: in either form the operand is shifted by the count, 1 or CL. -/
theorem shiftsByAnyCount : Obligations.ShiftsByAnyCount := by
  refine fun s hs => ⟨fun e => ?words, fun e => ?bytes⟩
  case words =>
    rintro ⟨n, shl, shr, sar⟩ hp
    obtain ⟨hshl, hshr, hsar⟩ : exec shl s = .next (s.shiftEv .shl n e) ∧ exec shr s = .next (s.shiftEv .shr n e) ∧
        exec sar s = .next (s.shiftEv .sar n e) := by
      simp only [List.mem_cons, List.not_mem_nil, or_false] at hp
      obtain ⟨rfl, rfl, rfl, rfl⟩ | ⟨rfl, rfl, rfl, rfl⟩ := hp <;> exact ⟨rfl, rfl, rfl⟩
    exact ⟨fun h0 => ⟨exec_of_shiftEv_zero hshl h0, exec_of_shiftEv_zero hshr h0, exec_of_shiftEv_zero hsar h0⟩,
      fun hn => ⟨givesWord_of_shift hs hshl rfl (shifts_shl (by decide) _ _ hn),
        givesWord_of_shift hs hshr rfl (shifts_shr _ _ hn), givesWord_of_shift hs hsar rfl (shifts_sar _ _ hn)⟩⟩
  case bytes =>
    rintro ⟨n, shl, shr, sar⟩ hp
    obtain ⟨hshl, hshr, hsar⟩ : exec shl s = .next (s.shiftEb .shl n e) ∧ exec shr s = .next (s.shiftEb .shr n e) ∧
        exec sar s = .next (s.shiftEb .sar n e) := by
      simp only [List.mem_cons, List.not_mem_nil, or_false] at hp
      obtain ⟨rfl, rfl, rfl, rfl⟩ | ⟨rfl, rfl, rfl, rfl⟩ := hp <;> exact ⟨rfl, rfl, rfl⟩
    exact ⟨fun h0 => ⟨exec_of_shiftEb_zero hshl h0, exec_of_shiftEb_zero hshr h0, exec_of_shiftEb_zero hsar h0⟩,
      fun hn => ⟨givesByte_of_shift hs hshl rfl (shifts_shl (by decide) _ _ hn),
        givesByte_of_shift hs hshr rfl (shifts_shr _ _ hn), givesByte_of_shift hs hsar rfl (shifts_sar _ _ hn)⟩⟩

/-- Settles O17: in either form the operand, or CF on top of it, is rotated by the count, 1 or CL. -/
theorem rotatesByAnyCount : Obligations.RotatesByAnyCount := by
  refine fun s hs => ⟨fun e => ?words, fun e => ?bytes, fun e => ?carryWords, fun e => ?carryBytes⟩ <;>
    rintro ⟨n, left, right⟩ hp <;> simp only [List.mem_cons, List.not_mem_nil, or_false] at hp
  case words =>
    obtain ⟨hleft, hright⟩ : exec left s = .next (s.shiftEv .rol n e) ∧ exec right s = .next (s.shiftEv .ror n e) := by
      obtain ⟨rfl, rfl, rfl⟩ | ⟨rfl, rfl, rfl⟩ := hp <;> exact ⟨rfl, rfl⟩
    exact ⟨fun h0 => ⟨exec_of_shiftEv_zero hleft h0, exec_of_shiftEv_zero hright h0⟩,
      fun hn => ⟨givesWord_of_rotate hs hleft rfl (shifts_rol (by decide) _ _ hn),
        givesWord_of_rotate hs hright rfl (shifts_ror (by decide) _ _ hn)⟩⟩
  case bytes =>
    obtain ⟨hleft, hright⟩ : exec left s = .next (s.shiftEb .rol n e) ∧ exec right s = .next (s.shiftEb .ror n e) := by
      obtain ⟨rfl, rfl, rfl⟩ | ⟨rfl, rfl, rfl⟩ := hp <;> exact ⟨rfl, rfl⟩
    exact ⟨fun h0 => ⟨exec_of_shiftEb_zero hleft h0, exec_of_shiftEb_zero hright h0⟩,
      fun hn => ⟨givesByte_of_rotate hs hleft rfl (shifts_rol (by decide) _ _ hn),
        givesByte_of_rotate hs hright rfl (shifts_ror (by decide) _ _ hn)⟩⟩
  case carryWords =>
    obtain ⟨hleft, hright⟩ : exec left s = .next (s.shiftEv .rcl n e) ∧ exec right s = .next (s.shiftEv .rcr n e) := by
      obtain ⟨rfl, rfl, rfl⟩ | ⟨rfl, rfl, rfl⟩ := hp <;> exact ⟨rfl, rfl⟩
    exact ⟨fun h0 => ⟨exec_of_shiftEv_zero hleft h0, exec_of_shiftEv_zero hright h0⟩,
      fun hn => ⟨givesWord_of_rotate hs hleft rfl (shifts_rcl (by decide) _ _ hn),
        givesWord_of_rotate hs hright rfl (shifts_rcr (by decide) _ _ hn)⟩⟩
  case carryBytes =>
    obtain ⟨hleft, hright⟩ : exec left s = .next (s.shiftEb .rcl n e) ∧ exec right s = .next (s.shiftEb .rcr n e) := by
      obtain ⟨rfl, rfl, rfl⟩ | ⟨rfl, rfl, rfl⟩ := hp <;> exact ⟨rfl, rfl⟩
    exact ⟨fun h0 => ⟨exec_of_shiftEb_zero hleft h0, exec_of_shiftEb_zero hright h0⟩,
      fun hn => ⟨givesByte_of_rotate hs hleft rfl (shifts_rcl (by decide) _ _ hn),
        givesByte_of_rotate hs hright rfl (shifts_rcr (by decide) _ _ hn)⟩⟩

end Sys2Proof.Proofs
end

section
/-! PROOFS. Repetition when nothing interrupts it (spec/43_string.md R193, R195, R196): the loop as a recursion over the
primitive, REP STOSB and REPNE SCASB by induction on CX; obligations O29, O31 and O32. -/
namespace Sys2Proof.Proofs
open Sys2Proof Sys2Proof.Machine

/-! ### A repetition that nothing interrupts -/

/-- A repeated instruction is in progress, and nothing can end it between two repetitions (R196, R197). -/
structure Uninterrupted (s : State) (z : Bool) : Prop where
  quiet : s.quiet
  unrequested : s.unrequested
  busFree : s.busFree
  settled : s.settled
  cut : s.cur.cut = false
  rep : s.cur.rep = some z

theorem Uninterrupted.undisturbed {s : State} {z : Bool} (h : Uninterrupted s z) : s.undisturbed := .inr h.quiet.2

theorem Uninterrupted.repeatedOnce {s : State} {z : Bool} (h : Uninterrupted s z) (p : Primitive) :
    Uninterrupted (repeatedOnce s p) z := by
  obtain ⟨hsystem, hif⟩ := repeatedOnce_kept h.undisturbed p
  obtain ⟨hnmi, -, -, -, -, hpins, -⟩ := id hsystem
  exact {
    quiet := quiet_of_systemKept hsystem h.quiet
    unrequested := by
      obtain ⟨hn, hi, htf⟩ := h.unrequested
      exact ⟨hnmi.trans hn, by rwa [hpins, hif], htf⟩
    busFree := busFree_of_systemKept hsystem h.busFree
    settled := settled_of_systemKept hsystem h.settled
    cut := h.cut
    rep := h.rep }

/-! ### The loop -/

/-- With CX = 0 there is no repetition at all (R196). -/
theorem repeatString_of_cx_zero {s : State} {z : Bool} (hrep : s.cur.rep = some z) (hcx : s.cx = 0) (p : Primitive) :
    s.repeatString p = s := by
  simp only [State.repeatString, hrep, hcx]
  rfl

/-- The loop of R196, one repetition unrolled. When CX has become 0 the rest of the loop is empty. -/
theorem repeatString_unroll {s : State} {z : Bool} (h : Uninterrupted s z) (hcx : s.cx ≠ 0) (p : Primitive) :
    s.repeatString p =
      if p.compares = true ∧ (repeatedOnce s p).flags.zF ≠ z then repeatedOnce s p
      else (repeatedOnce s p).repeatString p := by
  have hnext := h.repeatedOnce p
  have hn : s.cx.toNat = (repeatedOnce s p).cx.toNat + 1 := by
    show s.cx.toNat = (s.cx - 1).toNat + 1
    bv_omega
  rw [State.repeatString, h.rep, hn]
  simp only [State.repetitions, countDown_stringOnce h.undisturbed, Bool.and_eq_true, bne_iff_ne]
  split
  next => rfl
  next =>
    split
    next hzero => exact (repeatString_of_cx_zero hnext.rep hzero p).symm
    next =>
      rw [State.betweenRepetitions_of_quiet hnext.quiet hnext.unrequested hnext.busFree hnext.settled, hnext.cut,
        if_neg Bool.false_ne_true, State.repeatString, hnext.rep]

/-- Settles O29: the loop unrolled; CX = 1 before the last repetition is CX = 0 behind it. -/
theorem repetitionFollowsTheLoop : Obligations.RepetitionFollowsTheLoop := by
  intro s z hq hu hb hs hcut hrep
  have h : Uninterrupted s z := ⟨hq, hu, hb, hs, hcut, hrep⟩
  refine forall_repeated fun p => ⟨fun hcx => ?_, fun hcx => ?_⟩
  · rw [exec_stringInstr, repeatString_of_cx_zero hrep hcx]
  · refine ⟨_, (exec_stringInstr_once rfl p).trans (congrArg _ (stringOnce_rep h.undisturbed none p)), ?_⟩
    have hcx1 : (s.stringOnce p).cx = s.cx := (stringOnce_cx_iF h.undisturbed p).1
    simp only [exec_stringInstr, hcx1]
    rw [repeatString_unroll h hcx]
    show Host.Outcome.next _ = if _ ∨ _ then .next (repeatedOnce s p) else .next ((repeatedOnce s p).repeatString p)
    by_cases hends : p.compares = true ∧ (repeatedOnce s p).flags.zF ≠ z
    · rw [if_pos hends, if_pos (.inl hends)]
    · rw [if_neg hends]
      by_cases hlast : s.cx = 1
      · have hzero : (repeatedOnce s p).cx = 0 := by
          show s.cx - 1 = 0
          rw [hlast]
          rfl
        rw [if_pos (.inr hlast), repeatString_of_cx_zero (h.repeatedOnce p).rep hzero]
      · exact (if_neg (not_or.2 ⟨hends, hlast⟩)).symm

/-! ### REP STOSB -/

/-- A repetition changes CX beside what the primitive changes (R196). -/
theorem regsKept_repeatedOnce {s : State} {p : Primitive} (h : State.regsKept s (s.stringOnce p) [.di]) :
    State.regsKept s (repeatedOnce s p) [.cx, .di] := by
  intro r hr
  have hkept := h r fun hdi => hr (List.mem_cons_of_mem _ hdi)
  cases r with
  | cx => exact absurd List.mem_cons_self hr
  | ax | dx | bx | sp | bp | si | di => exact hkept

theorem repeatedOnce_stosb_di {s : State} (hdf : s.flags.dF = false) : (repeatedOnce s .stosb).di = s.di + 1 := by
  show s.di + (s.write8 s.es s.di (s.reg8 .al)).stringDelta 1 = _
  rw [add_stringDelta, State.write8_flags, hdf]
  rfl

/-- `t` is `s` with the CX bytes from ES:DI on filled with AL, as far as they are RAM, and nothing else changed but CX
and DI (R195, R196). -/
structure Filled (s t : State) : Prop where
  cx : t.cx = 0
  di : t.di = s.di + s.cx
  bytes : ∀ k < s.cx.toNat, s.params.kindAt (phys s.es (s.di + BitVec.ofNat 16 k)) = .ram →
    t.read8 s.es (s.di + BitVec.ofNat 16 k) = s.reg8 .al
  mem : State.memKept s t (fun a => ∃ k, k < s.cx.toNat ∧ a = phys s.es (s.di + BitVec.ofNat 16 k))
  flags : t.flags = s.flags
  regs : State.regsKept s t [.cx, .di]
  segs : State.segsKept s t []
  others : State.othersKept s t
  goesOn : State.goesOn s t

theorem filled_of_cx_zero {s : State} (hcx : s.cx = 0) : Filled s s where
  cx := hcx
  di := by rw [hcx]; exact (BitVec.add_zero _).symm
  bytes := by rw [hcx]; exact fun k hk => absurd hk (Nat.not_lt_zero k)
  mem := State.memKept_of_eq _ rfl rfl
  flags := rfl
  regs := fun _ _ => rfl
  segs := fun _ _ => rfl
  others := State.othersKept_refl s
  goesOn := State.goesOn_refl s

/-- The byte at distance `k + 1` is at distance `k` behind the first. -/
theorem succ_offset (x : Word) (k : Nat) : x + BitVec.ofNat 16 (k + 1) = x + 1 + BitVec.ofNat 16 k := by bv_omega

/-- One STOSB and then the rest of the block fill the block: no later byte is the first one again. -/
theorem filled_of_repeatedOnce {s t : State} (hs : s.undisturbed) (hdf : s.flags.dF = false) (hcx : s.cx ≠ 0)
    (h : Filled (repeatedOnce s .stosb) t) : Filled s t := by
  obtain ⟨hsegs, hothers, hgoes⟩ := stringOnce_kept hs .stosb
  have hdi := repeatedOnce_stosb_di hdf
  have hcount : (repeatedOnce s .stosb).cx.toNat + 1 = s.cx.toNat := by
    show (s.cx - 1).toNat + 1 = s.cx.toNat
    bv_omega
  have hbytes := h.bytes
  have hrest := h.mem
  simp only [hdi] at hbytes hrest
  have hfirst : State.memKept s (repeatedOnce s .stosb)
      (fun a => ∃ k, k < s.cx.toNat ∧ a = phys s.es (s.di + BitVec.ofNat 16 k)) :=
    State.memKept_congr (State.memKept_store s _ (s.reg8 .al) _ ⟨0, by omega, by rw [BitVec.add_zero]⟩)
      rfl rfl rfl rfl rfl
  exact {
    cx := h.cx
    di := by
      rw [h.di, hdi]
      show s.di + 1 + (s.cx - 1) = _
      bv_omega
    bytes := fun k hk hram => by
      cases k with
      | zero =>
        rw [BitVec.add_zero] at hram ⊢
        have hnext : t.read8 s.es s.di = (repeatedOnce s .stosb).read8 s.es s.di := by
          refine hrest.1 _ fun hstored => ?_
          obtain ⟨⟨j, hj, hphys⟩, -⟩ := hstored
          have hoff := phys_inj.1 hphys
          bv_omega
        rw [hnext]
        exact read8_write8_lands (fun a ha => ha ▸ hram) _
      | succ k =>
        rw [succ_offset] at hram ⊢
        exact hbytes k (by omega) hram
    mem := by
      refine State.memKept_trans hfirst (State.memKept_mono hrest ?_) rfl
      rintro a ⟨k, hk, rfl⟩
      exact ⟨k + 1, by omega, by rw [succ_offset]; rfl⟩
    flags := h.flags
    regs := State.regsKept_trans (regsKept_repeatedOnce (p := .stosb) (regsKept_stepDi _ 1)) h.regs
    segs := State.segsKept_trans hsegs h.segs
    others := othersKept_trans hothers h.others
    goesOn := State.goesOn_trans ⟨rfl, rfl, rfl, rfl⟩ h.goesOn }

/-- REP STOSB fills the block, by induction on CX. -/
theorem filled_repeatString {s : State} {z : Bool} (h : Uninterrupted s z) (hdf : s.flags.dF = false) :
    Filled s (s.repeatString .stosb) := by
  generalize hn : s.cx.toNat = n
  induction n generalizing s with
  | zero =>
    have hcx : s.cx = 0 := BitVec.eq_of_toNat_eq hn
    rw [repeatString_of_cx_zero h.rep hcx]
    exact filled_of_cx_zero hcx
  | succ n ih =>
    have hcx : s.cx ≠ 0 := by bv_omega
    rw [repeatString_unroll h hcx, if_neg fun hends => Bool.false_ne_true hends.1]
    refine filled_of_repeatedOnce h.undisturbed hdf hcx (ih (h.repeatedOnce .stosb) hdf ?_)
    show (s.cx - 1).toNat = n
    bv_omega

/-- Settles O31: the loop fills the block, whichever repeat byte it has. -/
theorem repeatedStoreFillsTheBlock : Obligations.RepeatedStoreFillsTheBlock := by
  intro s z hq hu hb hs hcut hrep hdf
  obtain ⟨hcx, hdi, hbytes, hmem, hflags, hregs, hsegs, hothers, hgoes⟩ :=
    filled_repeatString (z := z) ⟨hq, hu, hb, hs, hcut, hrep⟩ hdf
  exact ⟨_, exec_stringInstr .stosb s, hcx, hdi, hbytes, hmem, hflags, hregs, hsegs, hothers, hgoes⟩

/-! ### REPNE SCASB -/

theorem repeatedOnce_scasb_di {s : State} (hdf : s.flags.dF = false) : (repeatedOnce s .scasb).di = s.di + 1 := by
  show s.di + (s.flags8 subOp (s.reg8 .al) (s.read8 s.es s.di)).stringDelta 1 = _
  have hkept : (s.flags8 subOp (s.reg8 .al) (s.read8 s.es s.di)).flags.dF = s.flags.dF := rfl
  rw [add_stringDelta, hkept, hdf]
  rfl

/-- SCASB sets ZF if the byte is AL (R193). -/
theorem repeatedOnce_scasb_zF (s : State) :
    (repeatedOnce s .scasb).flags.zF = true ↔ s.read8 s.es s.di = s.reg8 .al := by
  obtain ⟨-, -, -, ⟨-, hz, -⟩, -⟩ := subW_flags8 false (s.reg8 .al) (s.read8 s.es s.di) s.flags
  have hdiff : s.reg8 .al - s.read8 s.es s.di - carryOf 8 false = 0 ↔ s.read8 s.es s.di = s.reg8 .al := by
    rw [show carryOf 8 false = 0 from rfl]
    bv_omega
  exact hz.trans hdiff

/-- `t` is `s` with the CX bytes from ES:DI on looked through for AL, and nothing else changed but CX, DI and the status
flags (R193, R196). -/
structure Scanned (s t : State) : Prop where
  found : ∀ k < s.cx.toNat, s.read8 s.es (s.di + BitVec.ofNat 16 k) = s.reg8 .al →
    (∀ j < k, s.read8 s.es (s.di + BitVec.ofNat 16 j) ≠ s.reg8 .al) →
    t.cx = s.cx - BitVec.ofNat 16 (k + 1) ∧ t.di = s.di + BitVec.ofNat 16 (k + 1) ∧ t.flags.zF = true
  absent : (∀ j < s.cx.toNat, s.read8 s.es (s.di + BitVec.ofNat 16 j) ≠ s.reg8 .al) →
    t.cx = 0 ∧ t.di = s.di + s.cx ∧ (s.cx ≠ 0 → t.flags.zF = false) ∧ (s.cx = 0 → t.flags = s.flags)
  mem : t.mem = s.mem
  control : controlKept s.flags t.flags
  regs : State.regsKept s t [.cx, .di]
  segs : State.segsKept s t []
  rest : State.restKept s t
  goesOn : State.goesOn s t

theorem scanned_of_cx_zero {s : State} (hcx : s.cx = 0) : Scanned s s where
  found := by rw [hcx]; exact fun k hk => absurd hk (Nat.not_lt_zero k)
  absent := fun _ => ⟨hcx, by rw [hcx]; exact (BitVec.add_zero _).symm, fun hne => absurd hcx hne, fun _ => rfl⟩
  mem := rfl
  control := ⟨rfl, rfl, rfl⟩
  regs := fun _ _ => rfl
  segs := fun _ _ => rfl
  rest := State.restKept_refl s
  goesOn := State.goesOn_refl s


/-- The scan ends behind its first byte if that is AL. -/
theorem scanned_of_match {s : State} (hs : s.undisturbed) (hdf : s.flags.dF = false) (hcx : s.cx ≠ 0)
    (hal : s.read8 s.es s.di = s.reg8 .al) : Scanned s (repeatedOnce s .scasb) := by
  obtain ⟨hsegs, hrest, -⟩ := stringOnce_rest hs .scasb rfl
  have hal0 : s.read8 s.es (s.di + BitVec.ofNat 16 0) = s.reg8 .al := by rwa [BitVec.add_zero]
  exact {
    found := fun k _ _ hbefore => by
      cases k with
      | zero => exact ⟨rfl, repeatedOnce_scasb_di hdf, (repeatedOnce_scasb_zF s).2 hal⟩
      | succ k => exact absurd hal0 (hbefore 0 (Nat.succ_pos k))
    absent := fun hnone => absurd hal0 (hnone 0 (by bv_omega))
    mem := rfl
    control := ⟨rfl, rfl, rfl⟩
    regs := regsKept_repeatedOnce (p := .scasb) (regsKept_stepDi _ 1)
    segs := hsegs
    rest := hrest
    goesOn := ⟨rfl, rfl, rfl, rfl⟩ }

/-- If the first byte is not AL, the scan is that of the bytes behind it. -/
theorem scanned_of_repeatedOnce {s t : State} (hs : s.undisturbed) (hdf : s.flags.dF = false) (hcx : s.cx ≠ 0)
    (hal : s.read8 s.es s.di ≠ s.reg8 .al) (h : Scanned (repeatedOnce s .scasb) t) : Scanned s t := by
  obtain ⟨hsegs, ⟨hothers, htrace⟩, -⟩ := stringOnce_rest hs .scasb rfl
  have hdi := repeatedOnce_scasb_di hdf
  have hcount : (repeatedOnce s .scasb).cx.toNat + 1 = s.cx.toNat := by
    show (s.cx - 1).toNat + 1 = s.cx.toNat
    bv_omega
  have hzf : (repeatedOnce s .scasb).flags.zF = false :=
    Bool.eq_false_iff.2 (mt (repeatedOnce_scasb_zF s).1 hal)
  have hbyte (k : Nat) : (repeatedOnce s .scasb).read8 (repeatedOnce s .scasb).es
      ((repeatedOnce s .scasb).di + BitVec.ofNat 16 k) = s.read8 s.es (s.di + BitVec.ofNat 16 (k + 1)) := by
    rw [hdi, succ_offset]
    rfl
  have hfound := h.found
  have habsent := h.absent
  simp only [hbyte] at hfound habsent
  exact {
    found := fun k hk hmatch hbefore => by
      cases k with
      | zero => exact absurd (by rwa [BitVec.add_zero] at hmatch) hal
      | succ k =>
        obtain ⟨hcx', hdi', hz'⟩ := hfound k (by omega) hmatch fun j hj => hbefore (j + 1) (by omega)
        refine ⟨?_, by rw [hdi', hdi, succ_offset s.di (k + 1)], hz'⟩
        rw [hcx']
        show s.cx - 1 - BitVec.ofNat 16 (k + 1) = _
        bv_omega
    absent := fun hnone => by
      obtain ⟨hcx', hdi', hmore, hlast⟩ := habsent fun j hj => hnone (j + 1) (by omega)
      refine ⟨hcx', ?_, fun _ => ?_, fun hzero => absurd hzero hcx⟩
      · rw [hdi', hdi]
        show s.di + 1 + (s.cx - 1) = _
        bv_omega
      · by_cases hend : (repeatedOnce s .scasb).cx = 0
        · rw [hlast hend, hzf]
        · exact hmore hend
    mem := h.mem
    control := h.control
    regs := State.regsKept_trans (regsKept_repeatedOnce (p := .scasb) (regsKept_stepDi _ 1)) h.regs
    segs := State.segsKept_trans hsegs h.segs
    rest := ⟨othersKept_trans hothers h.rest.1, h.rest.2.trans htrace⟩
    goesOn := State.goesOn_trans ⟨rfl, rfl, rfl, rfl⟩ h.goesOn }

/-- REPNE SCASB scans the block, by induction on CX. -/
theorem scanned_repeatString {s : State} (h : Uninterrupted s false) (hdf : s.flags.dF = false) :
    Scanned s (s.repeatString .scasb) := by
  generalize hn : s.cx.toNat = n
  induction n generalizing s with
  | zero =>
    have hcx : s.cx = 0 := BitVec.eq_of_toNat_eq hn
    rw [repeatString_of_cx_zero h.rep hcx]
    exact scanned_of_cx_zero hcx
  | succ n ih =>
    have hcx : s.cx ≠ 0 := by bv_omega
    rw [repeatString_unroll h hcx]
    split
    next hends =>
      exact scanned_of_match h.undisturbed hdf hcx ((repeatedOnce_scasb_zF s).1 (Bool.ne_false_iff.1 hends.2))
    next hgoes =>
      have hal : s.read8 s.es s.di ≠ s.reg8 .al := fun hal =>
        hgoes ⟨rfl, Bool.ne_false_iff.2 ((repeatedOnce_scasb_zF s).2 hal)⟩
      refine scanned_of_repeatedOnce h.undisturbed hdf hcx hal (ih (h.repeatedOnce .scasb) hdf ?_)
      show (s.cx - 1).toNat = n
      bv_omega

/-- Settles O32: the loop goes on until a byte is AL or CX is 0. -/
theorem repeatedScanStopsAtTheFirstMatch : Obligations.RepeatedScanStopsAtTheFirstMatch := by
  intro s hq hu hb hs hcut hrep hdf
  obtain ⟨hfound, habsent, hmem, hcontrol, hregs, hsegs, hrest, hgoes⟩ :=
    scanned_repeatString ⟨hq, hu, hb, hs, hcut, hrep⟩ hdf
  exact ⟨_, exec_stringInstr .scasb s, hfound, habsent, hmem, hcontrol, hregs, hsegs, hrest, hgoes⟩

end Sys2Proof.Proofs
end

section
/-! PROOFS. Where a step stops (spec/93_implementation_defined.md U3, U4, U10; spec/30_encoding.md R70, R82, R87): the
loop over prefixes reads on at one byte behind each; obligation O57. -/
namespace Sys2Proof.Proofs
open Sys2Proof Sys2Proof.Machine

/-! ### The bytes that are fetched -/

/-- What decides which instruction bytes are fetched is the same (R82). -/
def CodeKept (s t : State) : Prop := t.mem = s.mem ∧ t.cs = s.cs ∧ t.ip = s.ip ∧ t.queue = s.queue

theorem CodeKept.trans {s t u : State} (h : CodeKept s t) (h' : CodeKept t u) : CodeKept s u := by
  obtain ⟨hmem, hcs, hip, hqueue⟩ := h
  obtain ⟨hmem', hcs', hip', hqueue'⟩ := h'
  exact ⟨hmem'.trans hmem, hcs'.trans hcs, hip'.trans hip, hqueue'.trans hqueue⟩

theorem CodeKept.fetchBytes {s t : State} (h : CodeKept s t) : t.fetchBytes = s.fetchBytes := by
  obtain ⟨hmem, hcs, hip, hqueue⟩ := h
  simp only [State.fetchBytes, State.fetchByte, State.read8, hmem, hcs, hip, hqueue]

/-- Moving over instruction bytes moves IP and the queue, and nothing else that decides what is fetched (R28). -/
theorem advance_code (s : State) (n : Nat) : (s.advance n).mem = s.mem ∧ (s.advance n).cs = s.cs ∧
    (s.advance n).ip = s.ip + BitVec.ofNat 16 n ∧ (s.advance n).queue = s.queue.drop n := by
  obtain ⟨k, d, heard, he, -⟩ := s.advance_spec n
  rw [he]
  exact ⟨rfl, rfl, rfl, rfl⟩

theorem CodeKept.advance {s t : State} (h : CodeKept s t) (n : Nat) : CodeKept (s.advance n) (t.advance n) := by
  obtain ⟨hmem, hcs, hip, hqueue⟩ := h
  obtain ⟨smem, scs, sip, squeue⟩ := advance_code s n
  obtain ⟨tmem, tcs, tip, tqueue⟩ := advance_code t n
  exact ⟨by rw [tmem, hmem, smem], by rw [tcs, hcs, scs], by rw [tip, hip, sip], by rw [tqueue, hqueue, squeue]⟩

theorem codeKept_advance_zero (s : State) : CodeKept (s.advance 0) s := by
  obtain ⟨hmem, hcs, hip, hqueue⟩ := advance_code s 0
  exact ⟨hmem.symm, hcs.symm, by rw [hip, BitVec.add_zero], by rw [hqueue, List.drop_zero]⟩

theorem codeKept_advance_advance (s : State) (m n : Nat) :
    CodeKept (s.advance (m + n)) ((s.advance m).advance n) := by
  obtain ⟨hmem, hcs, hip, hqueue⟩ := advance_code s m
  obtain ⟨hmem', hcs', hip', hqueue'⟩ := advance_code (s.advance m) n
  obtain ⟨kmem, kcs, kip, kqueue⟩ := advance_code s (m + n)
  exact ⟨by rw [hmem', hmem, kmem], by rw [hcs', hcs, kcs],
    by rw [hip', hip, kip, BitVec.ofNat_add, BitVec.add_assoc],
    by rw [hqueue', hqueue, kqueue, List.drop_drop]⟩

/-- A prefix changes nothing that decides what is fetched behind it (R87). -/
theorem exec_prefix_codeKept {i : Instr} {s t : State} (hi : isPrefixByte i = true) (hx : exec i s = .next t) :
    CodeKept s t := by
  unfold isPrefixByte at hi
  split at hi
  case h_8 => contradiction
  all_goals
    cases hx
    exact ⟨rfl, rfl, rfl, rfl⟩

/-! ### Decoding -/

/-- Six bytes are read, which is always enough (R70). -/
theorem decode_fetchBytes (s : State) : ∃ i rest, decode s.fetchBytes = .instr i rest := decode_total (Nat.le_refl 6)

theorem encode_length_of_prefix {p : Instr} (hp : isPrefixByte p = true) : (encode p).length = 1 := by
  unfold isPrefixByte at hp
  split at hp
  case h_8 => contradiction
  all_goals rfl

/-- A prefix is one byte (R87). -/
theorem prefix_length {s : State} {p : Instr} {rest : List Byte} (hd : decode s.fetchBytes = .instr p rest)
    (hp : isPrefixByte p = true) : 6 - rest.length = 1 := by
  obtain ⟨-, hbytes⟩ := decode_eq_instr_iff.1 hd
  have hlength : (encode p).length + rest.length = 6 := by rw [← List.length_append, hbytes]; rfl
  have := encode_length_of_prefix hp
  omega

theorem exec_of_not_reserved {i : Instr} (h : reservedEncoding i = none) (s : State) : ∃ t, exec i s = .next t := by
  have hi := reservedEncodingsAreRefusedAndOthersComplete i s
  rwa [h] at hi

/-! ### The loop over prefixes -/

/-- At distance `m` from CS:IP of `s` stands a prefix (R87). -/
def PrefixAt (s : State) (m : Nat) : Prop :=
  ∃ p rest, decode (s.advance m).fetchBytes = .instr p rest ∧ isPrefixByte p = true

/-- An outcome that is a next state, or the refusal of the encoding behind nothing but prefixes at CS:IP of `s`. -/
def StopsAtReserved (s : State) (o : Outcome) : Prop :=
  (∃ t, o = .next t) ∨ ∃ (n : Nat) (i : Instr) (rest : List Byte) (r : Refusal), o = .refused r ∧
    reservedEncoding i = some r ∧ decode (s.advance n).fetchBytes = .instr i rest ∧ ∀ m < n, PrefixAt s m

/-- Behind `m` prefixes: the next bytes are a reserved encoding, another instruction, or one more prefix. -/
theorem runInstr_stops {b : State} (n : Nat) {m : Nat} {s : State} (hcode : CodeKept (b.advance m) s)
    (hbefore : ∀ k < m, PrefixAt b k) : StopsAtReserved b (s.runInstr n) := by
  induction n generalizing m s with
  | zero => exact .inl ⟨_, rfl⟩
  | succ n ih =>
    obtain ⟨i, rest, hd⟩ := decode_fetchBytes s
    have hdb : decode (b.advance m).fetchBytes = .instr i rest := hcode.fetchBytes ▸ hd
    cases hr : reservedEncoding i with
    | some r => exact .inr ⟨m, i, rest, r, runInstr_of_refused hd (exec_of_reserved hr _), hr, hdb, hbefore⟩
    | none =>
      obtain ⟨t, hx⟩ := exec_of_not_reserved hr (s.advance (6 - rest.length))
      cases hp : isPrefixByte i with
      | false => exact .inl ⟨t, runInstr_of_instr hd hp hx⟩
      | true =>
        rw [runInstr_of_prefix hd hp hx]
        rw [prefix_length hd hp] at hx
        refine ih (((codeKept_advance_advance b m 1).trans (hcode.advance 1)).trans (exec_prefix_codeKept hp hx)) ?_
        intro k hk
        rcases Nat.lt_succ_iff_lt_or_eq.1 hk with hlt | rfl
        · exact hbefore k hlt
        · exact ⟨i, rest, hdb, hp⟩

theorem runStep_stops {b s : State} (hcode : CodeKept b s) : StopsAtReserved b s.runStep := by
  have hbegin : CodeKept (b.advance 0) s.begin := ((codeKept_advance_zero b).trans hcode).trans ⟨rfl, rfl, rfl, rfl⟩
  rcases runInstr_stops 65536 hbegin nofun with ⟨t, ht⟩ | ⟨n, i, rest, r, hrefused, hstands⟩
  · exact .inl ⟨_, runStep_of_next ht⟩
  · exact .inr ⟨n, i, rest, r, runStep_of_refused hrefused, hstands⟩

/-! ### The step -/

/-- A CPU that has the bus answers a next state, unless it runs an instruction (R306). -/
theorem withBus_stops (s : State) : (∃ t, withBus s = .next t) ∨ withBus s = s.runStep := by
  unfold withBus
  split
  next => exact .inl ⟨_, rfl⟩
  next =>
    split
    next => exact .inl ⟨_, rfl⟩
    next => exact .inl ⟨_, rfl⟩
    next => exact .inr rfl
    next => exact .inr rfl

/-- Whatever else a step does, it answers a next state (R306). -/
theorem step_stops (s : State) : (∃ t, step s = .next t) ∨ step s = s.hear.regain.runStep := by
  by_cases hreset : s.hear.resetAsked = true
  · exact .inl ⟨_, by rw [step, State.cycle, if_pos hreset]⟩
  · by_cases hrun : s.hear.run = .inReset
    · exact .inl ⟨_, by rw [step, State.cycle, if_neg hreset, if_pos hrun]⟩
    · have hears : Hears s s.hear := ⟨rfl, Bool.eq_false_iff.2 hreset, hrun⟩
      cases hheld : s.hear.heldBy with
      | some m => exact .inl ⟨_, hears.step_held hheld⟩
      | none =>
        rw [hears.step_free hheld]
        exact withBus_stops _

/-- Settles O57: only the running of an instruction stops, and the bytes it reads are those at CS:IP. -/
theorem stepStopsOnlyAtReservedEncodings : Obligations.StepStopsOnlyAtReservedEncodings := by
  intro s
  rcases step_stops s with hnext | hrun
  · exact .inl hnext
  · rw [hrun]
    exact runStep_stops ⟨rfl, rfl, rfl, rfl⟩

end Sys2Proof.Proofs
end

section
/-! PROOFS. RESET (spec/70_reset_and_hazards.md R310, R312, R315; spec/10_state.md R31, R35; spec/60_exceptions.md
R277): what is left at the pins by the events of one look, what a high RESET ends, and who has the bus before the first
fetch; obligation O51. -/
namespace Sys2Proof.Proofs
open Sys2Proof Sys2Proof.Machine

/-! ### The pins after one event -/

theorem pinEvent_reset (s : State) {e : PinEvent} (h : ∀ high, e ≠ .reset high) :
    (s.pinEvent e).pins.reset = s.pins.reset := by
  cases e with
  | reset high => exact absurd rfl (h high)
  | hold request => exact congrArg (·.pins.reset) (s.holdLevel_eq request)
  | rq line request => exact congrArg (·.pins.reset) (s.rqPulse_eq line request)
  | nmiEdge | intr | test | shows => rfl

theorem pinEvent_intr (s : State) {e : PinEvent} (h : ∀ level type, e ≠ .intr level type) :
    ((s.pinEvent e).pins.intrLine, (s.pinEvent e).pins.intrType) = (s.pins.intrLine, s.pins.intrType) := by
  cases e with
  | intr level type => exact absurd rfl (h level type)
  | hold request => exact congrArg (fun t => (t.pins.intrLine, t.pins.intrType)) (s.holdLevel_eq request)
  | rq line request => exact congrArg (fun t => (t.pins.intrLine, t.pins.intrType)) (s.rqPulse_eq line request)
  | nmiEdge | reset | test | shows => rfl

theorem pinEvent_testLow (s : State) {e : PinEvent} (h : ∀ low, e ≠ .test low) :
    (s.pinEvent e).pins.testLow = s.pins.testLow := by
  cases e with
  | test low => exact absurd rfl (h low)
  | hold request => exact congrArg (·.pins.testLow) (s.holdLevel_eq request)
  | rq line request => exact congrArg (·.pins.testLow) (s.rqPulse_eq line request)
  | nmiEdge | reset | intr | shows => rfl

theorem pinEvent_hold (s : State) {e : PinEvent} (h : ∀ request, e ≠ .hold request) :
    (s.pinEvent e).pins.hold = s.pins.hold := by
  cases e with
  | hold request => exact absurd rfl (h request)
  | rq line request => exact congrArg (·.pins.hold) (s.rqPulse_eq line request)
  | nmiEdge | reset | intr | test | shows => rfl

/-- Only an NMI edge and RESET touch the latch (R31, R312). -/
theorem pinEvent_nmiPending (s : State) {e : PinEvent} (hnmi : e ≠ .nmiEdge) (h : ∀ high, e ≠ .reset high) :
    (s.pinEvent e).nmiPending = s.nmiPending := by
  cases e with
  | nmiEdge => exact absurd rfl hnmi
  | reset high => exact absurd rfl (h high)
  | hold request => cases request <;> rfl
  | rq line request => cases line <;> cases request <;> rfl
  | intr | test | shows => rfl

/-! ### The pins after the events of one entry -/

/-- What none of the events touches stays. -/
theorem foldl_pinEvent_kept {α : Type} (f : State → α) {es : List PinEvent}
    (h : ∀ e ∈ es, ∀ s : State, f (s.pinEvent e) = f s) (s : State) : f (es.foldl State.pinEvent s) = f s := by
  induction es generalizing s with
  | nil => rfl
  | cons e es ih =>
    rw [List.foldl_cons, ih fun k hk => h k (List.mem_cons_of_mem e hk), h e List.mem_cons_self]

/-- Of a level only the last value is seen (log 32). -/
theorem foldl_pinEvent_last {α : Type} (f : State → α) {es pre post : List PinEvent} {e : PinEvent} {v : α}
    (hes : es = pre ++ e :: post) (hpost : ∀ k ∈ post, ∀ s : State, f (s.pinEvent k) = f s)
    (he : ∀ s : State, f (s.pinEvent e) = v) (s : State) : f (es.foldl State.pinEvent s) = v := by
  rw [hes, List.foldl_append, List.foldl_cons, foldl_pinEvent_kept f hpost, he]

/-- While RESET stays as it is, an NMI edge is latched, once however many come, if it is low (R31, R312). -/
theorem foldl_pinEvent_latch {es : List PinEvent} (h : ∀ high, .reset high ∉ es) (s : State) :
    (es.foldl State.pinEvent s).nmiPending = true ↔
      s.nmiPending = true ∨ (s.pins.reset = false ∧ .nmiEdge ∈ es) := by
  induction es generalizing s with
  | nil => simp
  | cons e es ih =>
    have hne : ∀ high, e ≠ .reset high := fun high he => h high (he ▸ List.mem_cons_self)
    rw [List.foldl_cons, ih (fun high hm => h high (List.mem_cons_of_mem e hm)), pinEvent_reset s hne]
    by_cases hnmi : e = .nmiEdge
    · subst hnmi
      cases hreset : s.pins.reset <;> simp [hreset]
    · simp [pinEvent_nmiPending s hnmi hne, Ne.symm hnmi]

/-! ### The look -/

/-- The pins and the NMI latch are as the events of the entry leave them; another master does not touch them (R62). -/
theorem look_pins {s : State} {es : List PinEvent} {rest : List (List PinEvent)} (ho : s.outside = es :: rest) :
    s.look.pins = (es.foldl State.pinEvent { s with outside := rest }).pins ∧
      s.look.nmiPending = (es.foldl State.pinEvent { s with outside := rest }).nmiPending := by
  have hnext : s.nextEvents = es.foldl State.pinEvent { s with outside := rest } := by
    unfold State.nextEvents
    rw [ho]
  rw [State.look, hnext]
  exact ⟨State.busGap_pins _, State.busGap_nmiPending _⟩

/-- A look between instructions adds to a look what becomes of the queue (R58). -/
theorem hear_spec (s : State) : ∃ q d, s.hear = { s.look with queue := q, drawn := d } := by
  rw [State.hear_eq]
  split
  · obtain ⟨q, d, he, -⟩ := keepPrefetched_spec s.look s
    exact ⟨q, d, he⟩
  · exact ⟨_, _, rfl⟩

/-! ### The step while RESET is asked for and when it has gone low -/

theorem step_of_resetAsked {s : State} (h : s.hear.resetAsked = true) : step s = .next s.hear.enterReset := by
  rw [step, State.cycle, if_pos h]

theorem step_of_inReset {s : State} (h : s.hear.resetAsked = false) (hrun : s.hear.run = .inReset) :
    step s = .next s.hear.leaveReset := by
  rw [step, State.cycle, if_neg (Bool.eq_false_iff.1 h), if_pos hrun]

/-- LOCK* is driven inactive where there is one, if it is active (R3, R262). -/
theorem lockCalls_false (s : State) :
    s.lockCalls false = if s.params.busMode = .maximum ∧ s.lock = true then [.lockPin false] else [] := by
  simp only [State.lockCalls, ne_eq, Bool.not_eq_false]

/-- HLDA falls if it is high, and then LOCK*, if that is active (R315). -/
theorem enterReset_trace (s : State) : s.enterReset.trace =
    s.lockCalls false ++ ((if s.busReleased = some .hold then [.hlda false] else []) ++ s.trace) := rfl

/-- Behind RESET, with a request standing, the masters that ask come before the first fetch (R312). -/
theorem leaveReset_beforeFetch {s : State} (h : s.leaveReset.busRequest ≠ none) : s.leaveReset.beforeFetch ≠ [] :=
  fun hnone => h (State.busRequest_eq_none.2 hnone)

/-! ### Before the first fetch -/

/-- The bus goes to the master that asks, whatever the CPU runs (R62). -/
theorem step_of_running_asked {s t : State} {m : BusMaster} (hhear : s.hear = t) (hrun : t.run = .running)
    (hlock : t.lock = false) (hreset : t.resetAsked = false) (hm : t.busRequest = some m) :
    step s = .next (t.release m) := by
  have hears : Hears s t := ⟨hhear, hreset, by simp [hrun]⟩
  have hidle : (t.release m).idleHeld = t.release m :=
    State.idleHeld_of_not_waiting fun next hwait => absurd (hrun.symm.trans hwait) (by simp)
  rw [hears.step_held ((heldBy_of_unlocked hlock hreset).trans hm), hidle]

/-- What a master writes while the CPU is kept from its first fetch goes to memory, and nothing has been prefetched
(R312). -/
theorem hear_of_beforeFetch {s : State} {cells : List Host.Cell} {rest : List (List Host.Cell)} (ho : s.outside = [])
    (hmasters : s.masters = cells :: rest) (hlock : s.lock = false) (hfirst : s.beforeFetch ≠ []) :
    s.hear = { s with mem := Memory.writeAll s.params s.mem cells, masters := rest } := by
  have hnext : s.nextEvents = s := by
    unfold State.nextEvents
    rw [ho]
  have hbusy : s.beforeFetch.isEmpty = false := List.isEmpty_eq_false_iff.2 hfirst
  rw [State.hear_eq, hbusy, if_neg Bool.false_ne_true, State.look, hnext, State.busGap, hlock,
    if_neg Bool.false_ne_true, hmasters]

/-- What is fetched with an empty queue is what is in memory (R82). -/
theorem fetchByte_of_empty {s : State} (hqueue : s.queue = []) (hcs : s.cs = 0xFFFF) (hip : s.ip = 0) (k : Nat) :
    s.fetchByte k = s.read8 0xFFFF (BitVec.ofNat 16 k) := by
  rw [State.fetchByte, hqueue, hcs, hip, zero_add]
  rfl

/-- The CPU has left reset, and masters that ask for the bus come before its first fetch (R312). -/
structure BeforeFetch (s : State) : Prop where
  run : s.run = .running
  lock : s.lock = false
  resetAsked : s.resetAsked = false
  outside : s.outside = []
  queue : s.queue = []
  cs : s.cs = 0xFFFF
  ip : s.ip = 0
  first : s.beforeFetch ≠ []

/-- What the other masters write before the first fetch is what is fetched (R312). -/
theorem BeforeFetch.step {s : State} (h : BeforeFetch s) {m : BusMaster} (hm : s.busRequest = some m)
    (cells : List Host.Cell) (rest : List (List Host.Cell)) : ∃ w, step { s with masters := cells :: rest } = .next w ∧
      w.busReleased = some m ∧ w.mem = Memory.writeAll s.params s.mem cells ∧ w.cs = 0xFFFF ∧ w.ip = 0 ∧
      ∀ k, w.fetchByte k = w.read8 0xFFFF (BitVec.ofNat 16 k) :=
  ⟨_, step_of_running_asked (hear_of_beforeFetch h.outside rfl h.lock h.first) h.run h.lock h.resetAsked hm, rfl, rfl,
    h.cs, h.ip, fetchByte_of_empty h.queue h.cs h.ip⟩

theorem leaveReset_before {s : State} (hq : s.quiet) (hreset : s.resetAsked = false)
    (hasked : s.leaveReset.busRequest ≠ none) : BeforeFetch s.leaveReset where
  run := rfl
  lock := rfl
  resetAsked := hreset
  outside := hq.1
  queue := rfl
  cs := rfl
  ip := rfl
  first := leaveReset_beforeFetch hasked

/-- RQ*/GT1* is served when RQ*/GT0* does not ask (R62). -/
theorem busRequest_of_rq1 {s : State} (hmode : s.params.busMode = .maximum) (h0 : s.pins.rq0 = false)
    (h1 : s.pins.rq1 = true) : s.busRequest = some (.line .gt1) := by
  simp [busRequest_of_maximum hmode, h0, h1]

/-- Both request lines are pulsed: RQ*/GT0* has the bus first, and RQ*/GT1* when that gives it back (R62, R312). -/
theorem leaveReset_both {s : State} (hq : s.quiet) (hreset : s.resetAsked = false)
    (hmode : s.params.busMode = .maximum) (h0 : s.pins.rq0 = true) (h1 : s.pins.rq1 = true) :
    ∃ u v, step s.leaveReset = .next u ∧ step { u with outside := [[.rq .gt0 false]] } = .next v ∧
      u.busReleased = some (.line .gt0) ∧ v.busReleased = some (.line .gt1) ∧ v.mem = s.mem ∧ v.params = s.params ∧
      v.busRequest = some (.line .gt1) ∧ BeforeFetch v := by
  have hquiet : s.leaveReset.quiet := hq
  have hreset' : s.leaveReset.resetAsked = false := hreset
  have hfirst := step_of_running_asked (State.hear_of_quiet hquiet) rfl rfl hreset'
    (busRequest_of_rq0 (s := s.leaveReset) hmode h0 rfl)
  have hheard : ({ s.leaveReset.release (.line .gt0) with outside := [[.rq .gt0 false]] } : State).hear =
      heardLast (s.leaveReset.release (.line .gt0)) [.rq .gt0 false] := hear_of_one_entry rfl hq.2 rfl
  have hasked : (heardLast (s.leaveReset.release (.line .gt0)) [.rq .gt0 false]).busRequest = some (.line .gt1) :=
    busRequest_of_rq1 hmode rfl h1
  have hsecond := step_of_running_asked hheard rfl rfl hreset hasked
  have hstill : s.busRequests = [.line .gt0, .line .gt1] := by simp [State.busRequests, hmode, h0, h1]
  exact ⟨_, _, hfirst, hsecond, rfl, rfl, rfl, rfl, busRequest_release hasked, {
    run := rfl
    lock := rfl
    resetAsked := hreset
    outside := rfl
    queue := rfl
    cs := rfl
    ip := rfl
    first := by
      show s.busRequests.filter (· != .line .gt0) ≠ []
      rw [hstill]
      decide }⟩

/-! ### The obligation -/

/-- The first part of O51: the step while RESET is asked for. -/
theorem step_resets {s : State} (hq : s.quiet) (hreset : s.resetAsked = true) :
    ∃ t, step s = .next t ∧ t.run = .inReset ∧ (s.pins.reset = true → t.nmiPending = false) ∧
      t.mem = s.mem ∧ t.pins = s.pins ∧ t.resetSeen = false ∧ t.busReleased = none ∧ t.lock = false ∧
      (s.lock = false → t.trace = (if s.busReleased = some .hold then [.hlda false] else []) ++ s.trace) ∧
      (s.busReleased = none →
        t.trace = (if s.params.busMode = .maximum ∧ s.lock = true then [.lockPin false] else []) ++ s.trace) := by
  have hhear := State.hear_of_quiet hq
  refine ⟨s.enterReset, ?_, rfl, fun hhigh => ?_, rfl, rfl, rfl, rfl, rfl, fun hlock => ?_, fun hnone => ?_⟩
  · rw [step_of_resetAsked (hhear.symm ▸ hreset), hhear]
  · simp [State.enterReset, hhigh]
  · rw [enterReset_trace, lockCalls_false, hlock]
    simp
  · rw [enterReset_trace, lockCalls_false, hnone]
    simp

/-- Settles O51: the first clause by the steps into and out of reset and the grants before the first fetch, the second
by the events of one entry. -/
theorem resetLine : Obligations.ResetLine := by
  refine ⟨fun s hq => ⟨step_resets hq, fun hreset hrun => ?leaves⟩, fun s es pre post rest ho => ?looks⟩
  case leaves =>
    have hhear := State.hear_of_quiet hq
    have hstep : step s = .next s.leaveReset := by
      rw [step_of_inReset (hhear.symm ▸ hreset) (hhear.symm ▸ hrun), hhear]
    refine ⟨s.leaveReset, hstep, rfl, rfl, rfl, rfl, rfl, rfl, isFlagsImage_clear, rfl, rfl, rfl, rfl, rfl, rfl, rfl,
      fun hasked cells more => ?_, fun hmode h0 h1 => ?_⟩
    · obtain ⟨m, hm⟩ := Option.ne_none_iff_exists'.1 hasked
      rw [hm]
      exact (leaveReset_before hq hreset hasked).step hm cells more
    · obtain ⟨u, v, hu, hv, hu0, hv1, hmem, hparams, hm, hbefore⟩ := leaveReset_both hq hreset hmode h0 h1
      refine ⟨u, v, hu, hv, hu0, hv1, fun cells more => ?_⟩
      rw [← hmem, ← hparams]
      exact hbefore.step hm cells more
  case looks =>
    obtain ⟨hpins, hnmi⟩ := look_pins ho
    rw [hpins, hnmi]
    have keepsReset {l : List PinEvent} (h : ∀ high, .reset high ∉ l) : ∀ e ∈ l, ∀ t : State,
        (t.pinEvent e).pins.reset = t.pins.reset :=
      fun e he t => pinEvent_reset t fun high hk => h high (hk ▸ he)
    refine ⟨fun h => ⟨foldl_pinEvent_kept (·.pins.reset) (keepsReset h) _, foldl_pinEvent_latch h _⟩,
      fun hes h => ⟨foldl_pinEvent_last (·.pins.reset) hes (keepsReset h) (fun _ => rfl) _, ?rises⟩,
      fun hes h => ⟨foldl_pinEvent_last (·.pins.reset) hes (keepsReset h) (fun _ => rfl) _, fun hedge => ?falls⟩,
      fun level type hes h => Prod.mk.inj (foldl_pinEvent_last (fun t => (t.pins.intrLine, t.pins.intrType)) hes
        (fun e he t => pinEvent_intr t fun l n hk => h l n (hk ▸ he)) (fun _ => rfl) _),
      fun low hes h => foldl_pinEvent_last (·.pins.testLow) hes
        (fun e he t => pinEvent_testLow t fun l hk => h l (hk ▸ he)) (fun _ => rfl) _,
      fun request hes h => foldl_pinEvent_last (·.pins.hold) hes
        (fun e he t => pinEvent_hold t fun r hk => h r (hk ▸ he)) ?level _, fun hrun hreset => ?low⟩
    case rises =>
      rw [hes, List.foldl_append, List.foldl_cons, Bool.eq_false_iff, Ne, foldl_pinEvent_latch h]
      simp [State.pinEvent, State.resetLevel]
    case falls =>
      rw [hes, List.foldl_append, List.foldl_cons, foldl_pinEvent_latch h]
      exact .inr ⟨rfl, hedge⟩
    case level => exact fun t => rfl
    case low =>
      obtain ⟨q, d, hhear⟩ := hear_spec s
      have hrun' : s.hear.run = .inReset := by rw [hhear]; exact (Heard.look s).run.trans hrun
      refine ⟨_, step_of_inReset (by rw [hhear]; exact hreset) hrun', rfl, ?_⟩
      rw [← hnmi, hhear]
      rfl

end Sys2Proof.Proofs
end
